-- ==== Sys2Proof/Word.lean ====
section
/-! DEFINITION. The word types of the FZ-612 and the upper ends of its counter ranges (00_scope.md 5.3). -/

namespace Sys2Proof

/-- One byte of a serial port or of the array. -/
abbrev Byte := BitVec 8

/-- A 16-bit check register (R211). -/
abbrev Word16 := BitVec 16

/-- A wrapping 32-bit quantity: the cumulative counters (R4) and the millisecond timebase (R1). -/
abbrev Word32 := BitVec 32

/-- Upper end of a 16-bit saturating counter, and the largest figure of an interval (R8). -/
abbrev max16 : Nat := 65535

/-- Upper end of an interval number (R18) and of a 32-bit saturating count (R138). -/
abbrev max32 : Nat := 4294967295

end Sys2Proof
end

