-- ==== Sys2Proof/Syntax.lean ====
section
/-! DEFINITION. The commands of the FZ-612: one constructor per row of spec/opcode_table.json, in the table's order.
A command is one event of the part (00_scope.md 5.6) or one request of the collector (R196). -/

namespace Sys2Proof

/-- The two pulse channels (01 Meter Inputs, 1.1): IMPORT on IMP, EXPORT on EXP. -/
inductive Channel
  | imp
  | exp
  deriving DecidableEq, Repr, Inhabited

/-- One command. The operand of `clrAsserted`, `islAssertion` and `mnsEdge` is the level the line changes to
(DESIGN CHOICE, log 10); the operand of the four array completions is the outcome of the verify, and that of
`conversionComplete` the sum of the samples (DESIGN CHOICE, log 11). -/
inductive Instr
  | pulse (ch : Channel)
  | holdOffExpiry (ch : Channel)
  | boundary
  | boundarySnapshot
  | listenWindowExpiry
  | jumpRingHandover
  | preJumpMark
  | peerTableJump
  | cutShortInstruction
  | supplyJumpHandover
  | setNumbering
  | commissioningCut
  | receivedByte (b : Byte)
  | framingError
  | stallCheckExpiry
  | rxdBreak
  | rxdRisingEdge
  | copyScheduleBuild
  | copyDue
  | clrAsserted (level : Bool)
  | deferLimitExpiry
  | lastByteSent
  | echoWindowExpiry
  | frameTake
  | peerTableBoundary
  | peerTableCommissioning
  | reckoningInstruction
  | reckoningCommissioning
  | surFrameStart
  | settlingTimerExpiry
  | startEvent
  | conversionComplete (sum : Nat)
  | islAssertion (level : Bool)
  | supplyRecordClosure
  | supplyCommissioning
  | checkpointRequest
  | eraseComplete (verified : Bool)
  | slotProgramComplete (verified : Bool)
  | configurationWriteComplete (verified : Bool)
  | lockMarkerProgramComplete (verified : Bool)
  | selectionEvent
  | startAccumulatorFold
  | listenWindowStart
  | takingBegins
  | startEndLim
  | mnsEdge (level : Bool)
  | mainsMeasurementExpiry
  | linkHoldUpEntry
  | linkHoldUpExit
  | converterHalt
  | converterResettle
  | outputsHoldUpEntry
  | outputsHoldUpExit
  | sloAsserted
  | powerOnLevel
  | mainsReturnPowerUp
  | portReceivedByte (b : Byte)
  | portFramingError
  | gapTimerExpiry
  | responseSent
  | status
  | account
  | peekRecords (n : Byte)
  | takeRecords (n : Byte)
  | peers (n : Byte)
  | commission (body : List Byte)
  | lock
  | closePeriod
  | restartBlock (selector : Byte)
  | restartNode
  | clearCause
  | oneSecondTick
  | linkConfigurationWrite
  | limConfigurationWrite
  | heldRequestExecution
  | rxdFallingEdge
  | sloInactive
  | surGeneratorStep
  deriving DecidableEq, Repr, Inhabited

end Sys2Proof
end

