-- ==== Sys2Proof/Config.lean ====
section
/-! DEFINITION. What the manual leaves open: the free values, each an opaque constant applied to the plain counter
`freeCount` of State, so that no proof can see what it is. -/

namespace Sys2Proof

/-- Which guarded item a stored bit's upset strikes (R6, R64, R112, R142). DESIGN CHOICE, log 12. -/
inductive ParityItem
  | importCounter
  | exportCounter
  | importAccumulator
  | exportAccumulator
  | snapshot
  | lastReckoned
  | account
  | peerEntry (id : Nat)
  deriving DecidableEq, Repr, Inhabited

/-- What one place of the array holds after an erase that failed or was cut short: what it held before, nothing, or
bytes whose check fails (R170, R172). DESIGN CHOICE, log 14. -/
inductive Remnant
  | kept
  | erased
  | damaged
  deriving DecidableEq, Repr, Inhabited

namespace Config

/-- The parity upset, if any, of one millisecond: the manual says what a failed check does and not when one fails
(R6, R64). Log 12. -/
opaque upset : Nat → Option ParityItem

/-- The interval number that follows 4,294,967,295: the manual states no result there (R16, R18, R27, R139). Log 13. -/
opaque intervalBeyond : Nat → BitVec 32

/-- The next sequence number after a start read that finds 4,294,967,295: the manual states no result there (R175).
Log 37. -/
opaque sequenceBeyond : Nat → BitVec 32

/-- What slot `slot` holds after a sector erase that failed or was cut short (R170, R172). Log 14. -/
opaque eraseRemnant : Nat → Nat → Remnant

/-- Whether a program or an erase that failed or was cut short has left bytes in its place (R162, R172). Log 14. -/
opaque placeTouched : Nat → Bool

/-- The quorum with no working configuration: no chapter gives one for FRESH (R160). Log 20. -/
opaque quorumUnset : Nat

/-- The levy with no working configuration: no chapter gives one for FRESH (R160). Log 20. -/
opaque levyUnset : Nat

end Config

end Sys2Proof
end

