-- ==== Sys2Proof/Machine/State.lean ====
section
/-! DEFINITION. The state of the FZ-612, block by block, as plain data, and the state right after reset. The rule that
names each item stands in its docstring. Fields that hold an event on its way from one block to another are the model's
own (log 6). -/

namespace Sys2Proof.Machine

/-- Reasons the block stops with a fault: none. The spec gives every event an effect or no occasion; the part's own
faults (a break, SENSE-FAULT, a failed store, a parity fault) are states. -/
inductive Fault
  deriving DecidableEq, Repr

/-- Reasons a command has no meaning. -/
inductive Refusal
  /-- Raised by `exec` for a command whose meaning is not written yet; safe (the model stops). No arm raises it. -/
  | notModelled (mnemonic : String)
  deriving DecidableEq, Repr

/-! ### Notifications between the blocks -/

/-- Whether the numbering has been brought into step with the village (R21). -/
inductive Alignment
  | unaligned
  | aligned
  deriving DecidableEq, Repr, Inhabited

/-- A boundary (R17) or a jump (R30) as notified to one block. `epoch` counts the configuration writes whose completion
the clock had taken when it issued the notification (log 7). -/
inductive Notice
  | boundary (k newC : Nat) (alignment : Alignment) (epoch : Nat)
  | jump (oldC newC : Nat) (alignment : Alignment) (epoch : Nat)
  deriving DecidableEq, Repr

/-- HOLD-UP entry or exit as notified to one block (R182, R183). -/
inductive PowerNotice
  | entry
  | exit
  deriving DecidableEq, Repr, Inhabited

/-! ### Meter input block (01) -/

/-- A channel accepts the next pulse or not (R2). -/
inductive ChannelState
  | openChannel
  | holdOff
  deriving DecidableEq, Repr, Inhabited

/-- The state of one pulse channel. -/
structure MeterChannel where
  /-- OPEN or HOLD-OFF (R2). -/
  state : ChannelState
  /-- Last accepted pulse time, or none (R2). -/
  lastPulse : Option Word32
  /-- When the HOLD-OFF in progress ends: captured time plus the spacing in force then (R2, R3). -/
  expiry : Word32
  /-- Rejected-pulse count (R2). -/
  rejected : Nat
  /-- Cumulative counter, wrapping (R4). -/
  counter : Word32
  /-- START accumulator, wrapping (R5). -/
  accumulator : Word32
  /-- Whether the stored parity of the counter agrees (R6). -/
  counterParity : Bool
  /-- Whether the stored parity of the accumulator agrees (R6). -/
  accumulatorParity : Bool
  deriving DecidableEq, Repr

/-- Both cumulative values at one moment (R7). -/
structure Cut where
  exp : Word32
  imp : Word32
  deriving DecidableEq, Repr

/-- An own figure record (R8). -/
structure OwnRecord where
  interval : Nat
  exportWh : Nat
  importWh : Nat
  saturated : Bool
  cumExport : Word32
  cumImport : Word32
  restarted : Bool
  deriving DecidableEq, Repr

/-- The meter input block. -/
structure Meter where
  imp : MeterChannel
  exp : MeterChannel
  /-- The millisecond timebase (R1). -/
  timebase : Word32
  /-- The boundary snapshot (R7). -/
  snapshot : Cut
  /-- Whether the stored parity of the snapshot agrees (R6). -/
  snapshotParity : Bool
  /-- The own figure ring, ascending intervals (R9). -/
  ring : List OwnRecord
  /-- The restart condition (R10). -/
  restart : Bool
  /-- The block has not taken the end of START yet (R5, R180). -/
  foldDue : Bool
  /-- Clock notifications not yet taken, oldest first. -/
  inbox : List Notice
  /-- Configuration writes whose completion the block has taken (log 7). -/
  epoch : Nat
  deriving DecidableEq, Repr

/-! ### Interval clock (02) -/

/-- The jump candidate (R26). -/
structure Candidate where
  ci : Nat
  ri : Nat
  elapsed : Nat
  deriving DecidableEq, Repr

/-- The clock's judgement of an alignment input (R22). -/
inductive Verdict
  | inStep
  | behind
  | far
  | none
  deriving DecidableEq, Repr, Inhabited

/-- The interval clock. -/
structure Clock where
  /-- Own interval number (R16, R18). -/
  c : Nat
  /-- Remaining count in seconds (R16). -/
  r : Nat
  /-- Interval length code, which gives L (R19). -/
  lengthCode : Nat
  alignment : Alignment
  /-- The listen window: stopped, or the seconds left (R21). -/
  window : Option Nat
  /-- The far-ahead set, in the order heard (R26). -/
  farAhead : List Nat
  candidate : Option Candidate
  jumpCount : Nat
  /-- Jumps since the node reset, not held at 65,535; the numbering of a stamp (log 40). -/
  jumps : Nat
  /-- A tick has found r at 1 and the boundary has not been taken yet (R16, log 9). -/
  expiryDue : Bool
  /-- The clock has not taken the end of START yet (R21, R180). -/
  listenDue : Bool
  /-- Configuration writes whose completion the clock has taken (log 7). -/
  epoch : Nat
  /-- c as the last of these left it (log 8). -/
  completionC : Nat
  deriving DecidableEq, Repr

/-! ### Carrier link (03) -/

/-- The receive state (R37..R41). -/
inductive RxState
  | hunt
  | receiving
  | fault
  deriving DecidableEq, Repr, Inhabited

/-- The transmit state (R49..R56). -/
inductive TxState
  | idle
  | waiting
  | sending
  | echo
  | suspended
  deriving DecidableEq, Repr, Inhabited

/-- A frame's stamp: the position c_s, r_s at its completion (R44), and the numbering it stands in, which is the jumps
the clock had made and the configuration writes that had completed (log 40). -/
structure Stamp where
  c : Nat
  r : Nat
  jumps : Nat
  completions : Nat
  deriving DecidableEq, Repr

/-- A queued frame: its 24 content bytes, its stamp and the pre-jump mark (R45). -/
structure QueueEntry where
  content : List Byte
  stamp : Stamp
  preJump : Bool
  deriving DecidableEq, Repr

/-- A copy not yet due: its index and its offset in seconds (R48). -/
structure ScheduledCopy where
  index : Nat
  offset : Nat
  deriving DecidableEq, Repr

/-- The copy count and index the copy in flight carries in its copy byte (R212). -/
structure CopyMark where
  count : Nat
  index : Nat
  deriving DecidableEq, Repr

/-- The eight link counters (R59). -/
structure LinkCounters where
  good : Nat
  checkFailures : Nat
  stalls : Nat
  overruns : Nat
  breaks : Nat
  sent : Nat
  missed : Nat
  collisions : Nat
  deriving DecidableEq, Repr

/-- The carrier link. -/
structure Link where
  rx : RxState
  /-- The frame in assembly (R38). -/
  assembly : List Byte
  /-- The stall check: milliseconds left (R39). -/
  stall : Option Nat
  /-- The break measurement: milliseconds left (R40). -/
  breakTimer : Option Nat
  /-- The receive queue, oldest first (R45). -/
  queue : List QueueEntry
  tx : TxState
  /-- The copy schedule, ascending (R47). -/
  schedule : List ScheduledCopy
  /-- The copy count C of the schedule (R212). -/
  scheduleCount : Nat
  /-- The schedule elapsed count in seconds (R47). -/
  elapsed : Nat
  /-- The copy in WAITING (R49). -/
  copy : Option CopyMark
  /-- The 20 s defer limit: milliseconds left (R49). -/
  deferLimit : Option Nat
  /-- The 100 ms echo window: milliseconds left (R51). -/
  echoWindow : Option Nat
  /-- The bytes of the last copy whose sending started (R43, R51). -/
  echoReference : Option (List Byte)
  /-- REQ raised (R49). -/
  req : Bool
  counters : LinkCounters
  /-- The interval whose own figure record a schedule waits for (R47). -/
  awaiting : Option Nat
  inbox : List Notice
  power : List PowerNotice
  epoch : Nat
  deriving DecidableEq, Repr

/-! ### Peer table (04) -/

/-- The feeder's supply condition over an interval. -/
inductive SupplyState
  | grid
  | strained
  | island
  deriving DecidableEq, Repr, Inhabited

/-- The node's view of a peer (R61). -/
inductive EntryState
  | learning
  | active
  | silent
  | discordant
  deriving DecidableEq, Repr, Inhabited

/-- The status of a held slot (R62). -/
inductive SlotStatus
  | direct
  | recovered
  | broken
  deriving DecidableEq, Repr, Inhabited

/-- A held figure slot (R62). -/
structure Slot where
  label : Nat
  status : SlotStatus
  exportWh : Nat
  importWh : Nat
  saturated : Bool
  /-- The reported supply state, or absent. -/
  supply : Option SupplyState
  senderHeld : Bool
  deriving DecidableEq, Repr

/-- The latest interval end the peer reported (R61). -/
structure Anchor where
  interval : Nat
  cumExport : Word32
  cumImport : Word32
  deriving DecidableEq, Repr

/-- An entry of the peer table (R61). -/
structure Entry where
  id : Nat
  state : EntryState
  /-- Silence age, 0..255. -/
  age : Nat
  /-- Frames heard. -/
  heard : Nat
  /-- Last phase lead, or none. -/
  lead : Option Int
  restartedSeen : Bool
  anchor : Option Anchor
  /-- Held slots, ascending labels. -/
  slots : List Slot
  /-- Whether the entry's stored parity agrees (R64). -/
  parity : Bool
  deriving DecidableEq, Repr

/-- The ten table counters (R86). -/
structure TableCounters where
  foreign : Nat
  duplicate : Nat
  parityDiscards : Nat
  tableFull : Nat
  ahead : Nat
  late : Nat
  discordant : Nat
  peerRestarts : Nat
  recovered : Nat
  broken : Nat
  deriving DecidableEq, Repr

/-- The peer table. -/
structure Peers where
  /-- Entries in ascending id order (R60). -/
  entries : List Entry
  tableInterval : Nat
  counters : TableCounters
  /-- Taking frames has begun (R65, R180). -/
  taking : Bool
  inbox : List Notice
  epoch : Nat
  deriving DecidableEq, Repr

/-! ### Configuration (08, 8.2) -/

/-- The configuration record's fields (R215), in index order. -/
structure Configuration where
  cooperative : Nat
  nodeId : Nat
  lengthCode : Nat
  startInterval : Nat
  startRemaining : Nat
  importWeight : Nat
  exportWeight : Nat
  spacing : Nat
  copies : Nat
  guardSeconds : Nat
  quorum : Nat
  levy : Nat
  /-- Band of hour 0 to hour 23. -/
  bandMap : List Nat
  /-- Five prices a band, bands 0 to 3. -/
  prices : List Nat
  accumulationCode : Nat
  sensePeriod : Nat
  windowLow : Nat
  windowHigh : Nat
  strain : Nat
  limitFloor : Int
  deriving DecidableEq, Repr

/-! ### Reckoning unit (05) -/

/-- A counted peer as the participant list copies it (R78). -/
structure CountedPeer where
  id : Nat
  status : SlotStatus
  exportWh : Nat
  importWh : Nat
  saturated : Bool
  supply : Option SupplyState
  senderHeld : Bool
  deriving DecidableEq, Repr

/-- The participant list of one interval (R78). -/
structure ParticipantList where
  counted : List CountedPeer
  /-- Number of expected peers. -/
  expected : Nat
  deriving DecidableEq, Repr

/-- Where a supply state comes from (R97, R126). -/
inductive SupplySource
  | own
  | peer
  | held
  deriving DecidableEq, Repr, Inhabited

/-- A closed supply record (R126). -/
structure SupplyRecord where
  interval : Nat
  state : SupplyState
  source : SupplySource
  deriving DecidableEq, Repr

/-- The kind of a reckoning (R89, R90). -/
inductive ReckoningKind
  | regular
  | cutShort
  deriving DecidableEq, Repr, Inhabited

/-- A pending reckoning: each input, or none while it is awaited (R91). An own figure or supply answer is itself a record
or "none held". -/
structure PendingReckoning where
  interval : Nat
  /-- The place, in the clock's order, of the notification whose input opened it (R91, log 45). -/
  order : Nat
  kind : Option ReckoningKind
  own : Option (Option OwnRecord)
  supply : Option (Option SupplyRecord)
  list : Option ParticipantList
  deriving DecidableEq, Repr

/-- The reckoning unit. -/
structure Reckoning where
  /-- In the order of the notifications that instruct them (R91). -/
  pending : List PendingReckoning
  /-- Last reckoned interval (R93). -/
  last : Option Nat
  /-- Whether its stored parity agrees (R112). -/
  lastParity : Bool
  noFigure : Nat
  repeats : Nat
  /-- The configuration the unit reckons under: the working configuration as the unit last took it (R99, log 46). -/
  inForce : Option Configuration
  inbox : List Notice
  epoch : Nat
  deriving DecidableEq, Repr

/-! ### Supply sense (06) -/

/-- The converter state (R115, R116, R122). -/
inductive ConverterState
  | settling
  | ready
  | converting
  | halted
  deriving DecidableEq, Repr, Inhabited

/-- The settling timer (R115). -/
inductive SettlingTimer
  | stopped
  | running (left : Nat)
  | expired
  deriving DecidableEq, Repr, Inhabited

/-- The converter's two channels (06, 6.1). -/
inductive SenseChannel
  | feeder
  | reference
  deriving DecidableEq, Repr, Inhabited

/-- The conversion in flight (R116). -/
structure Conversion where
  channel : SenseChannel
  /-- The latched accumulation count A. -/
  accumulation : Nat
  due : Word32
  /-- The discard mark (R119). -/
  discard : Bool
  /-- Configuration writes that had completed when it started (log 41). -/
  completions : Nat
  deriving DecidableEq, Repr

/-- How a feeder result lies against the window (R119). -/
inductive FeederClass
  | normal
  | sag
  | swell
  deriving DecidableEq, Repr, Inhabited

/-- The last feeder result (R119). -/
structure FeederResult where
  result : Nat
  cls : FeederClass
  valid : Bool
  deriving DecidableEq, Repr

/-- The open supply record (R125). -/
structure OpenRecord where
  sag : Nat
  swell : Nat
  /-- Island seen: the ISL latch (R124). -/
  island : Bool
  /-- Valid feeder conversions. -/
  valid : Nat
  deriving DecidableEq, Repr

/-- Supply sense. -/
structure Supply where
  converter : ConverterState
  settling : SettlingTimer
  /-- Seconds since the last start event (R116). -/
  periodCount : Nat
  /-- The period count has reached P and the start event is not taken yet (R116, log 29, log 57). -/
  startDue : Bool
  /-- Position in the reference sequence (R117). -/
  sequence : Nat
  flight : Option Conversion
  senseFault : Bool
  inBandRun : Nat
  lastFeeder : Option FeederResult
  lastReference : Option Nat
  openRecord : OpenRecord
  /-- The supply record ring, ascending intervals (R127). -/
  ring : List SupplyRecord
  lastClosed : SupplyState
  skipped : Nat
  refFailures : Nat
  discarded : Nat
  inbox : List Notice
  power : List PowerNotice
  epoch : Nat
  deriving DecidableEq, Repr

/-! ### Account, settlement queue and household outputs (07) -/

/-- The mode of a reckoning (R96). -/
inductive Mode
  | pooled
  | unpooled
  | lone
  deriving DecidableEq, Repr, Inhabited

/-- The household's role (R101). -/
inductive Role
  | idle
  | seller
  | buyer
  deriving DecidableEq, Repr, Inhabited

/-- The direction of an amount (R105, R106). -/
inductive Direction
  | credit
  | charge
  deriving DecidableEq, Repr, Inhabited

/-- The village block of a settlement record (R108). -/
structure VillageBlock where
  counted : Nat
  expected : Nat
  supply : Nat
  demand : Nat
  deriving DecidableEq, Repr

/-- The price block of a settlement record (R108). -/
structure PriceBlock where
  matched : Nat
  unmatched : Nat
  peerPrice : Nat
  secondPrice : Nat
  amount : Nat
  direction : Direction
  levy : Nat
  deriving DecidableEq, Repr

/-- A settlement record (R108). -/
structure SettlementRecord where
  interval : Nat
  band : Nat
  supplyState : SupplyState
  source : SupplySource
  mode : Mode
  cutShort : Bool
  ownExport : Nat
  ownImport : Nat
  saturated : Bool
  role : Role
  village : Option VillageBlock
  price : Option PriceBlock
  /-- Balance after posting, filled by the account. -/
  balance : Int
  deriving DecidableEq, Repr

/-- What an accounting period has gathered: the balance, the saturated flag, totals and counts (07, state table). -/
structure PeriodFigures where
  balance : Int
  saturated : Bool
  credits : Nat
  charges : Nat
  levy : Nat
  soldPeers : Nat
  soldSurplus : Nat
  boughtPeers : Nat
  boughtBackup : Nat
  pooled : Nat
  unpooled : Nat
  lone : Nat
  cutShort : Nat
  deriving DecidableEq, Repr

/-- The closed-period summary (R139). -/
structure Summary where
  period : Nat
  opening : Nat
  closing : Option Nat
  figures : PeriodFigures
  lost : Nat
  deriving DecidableEq, Repr

/-- What the account and a checkpoint hold of the account (R143, R166). -/
structure Ledger where
  figures : PeriodFigures
  /-- Period number, wrapping. -/
  period : Nat
  /-- Period opening interval. -/
  opening : Nat
  summary : Option Summary
  deriving DecidableEq, Repr

/-- The account. -/
structure Account where
  ledger : Ledger
  /-- Whether the stored parity of the account's items agrees (R142). -/
  parity : Bool
  deriving DecidableEq, Repr

/-- The settlement queue (07, 7.4). -/
structure SettlementQueue where
  /-- Oldest first (R145). -/
  records : List SettlementRecord
  lost : Nat
  deriving DecidableEq, Repr

/-- The results of the last reckoning handed over (R149). -/
structure HeldResult where
  mode : Mode
  supply : Nat
  demand : Nat
  role : Role
  unmatched : Nat
  deriving DecidableEq, Repr

/-- The indicator outputs (07, 7.6). -/
structure Outputs where
  held : Option HeldResult
  duty : Nat
  /-- Frame position: period 0..3 and step 0..255 (R151). -/
  period : Nat
  step : Nat
  base : Nat
  extension : Nat
  /-- A frame begins at this position and its latch is not taken yet (R151, log 25). -/
  frameStartDue : Bool
  sur : Bool
  sht : Bool
  lim : Bool
  /-- The block has not taken the end of START into RUN yet (R155, R180). -/
  limDue : Bool
  power : List PowerNotice
  epoch : Nat
  deriving DecidableEq, Repr

/-! ### Checkpoint store (08) -/

/-- Whether a configuration exists and may be replaced (R159). -/
inductive Commissioning
  | fresh
  | commissioned
  | locked
  deriving DecidableEq, Repr, Inhabited

/-- Whether the configuration area's record passed its check (R159). -/
inductive Condition
  | good
  | defective
  deriving DecidableEq, Repr, Inhabited

/-- The condition of the lock place (R159). -/
inductive LockClass
  | blank
  | marked
  | spoilt
  deriving DecidableEq, Repr, Inhabited

/-- The working configuration with its check value (R160). -/
structure Working where
  record : Configuration
  check : Word16
  deriving DecidableEq, Repr

/-- What one place of the array holds (R157, R216): every byte erased, the bytes of a completed program, or bytes whose
check fails (log 14). -/
inductive Place
  | erased
  | written (bytes : List Byte)
  | damaged
  deriving DecidableEq, Repr, Inhabited

/-- The non-volatile array (R157). -/
structure NvArray where
  /-- The configuration record's place, 98 bytes (R215). -/
  config : Place
  /-- The lock place, 4 bytes (R215). -/
  lock : Place
  /-- 32 checkpoint slots; 0..15 are sector 0, 16..31 sector 1. -/
  slots : List Place
  deriving DecidableEq, Repr

/-- The operation in flight, with its attempt 1 or 2 (R158). -/
inductive Operation
  /-- Erase of the configuration sector for a configuration write of these 96 field bytes. -/
  | eraseConfig (body : List Byte) (attempt : Nat)
  /-- Program of the configuration record. -/
  | programConfig (body : List Byte)
  /-- Program of the lock marker. -/
  | programLock (check : Word16)
  /-- Erase of a checkpoint sector; with a record when it precedes that record's second attempt (R169). The flag says the
  record was built after the final request (R173). -/
  | eraseSector (sector attempt : Nat) (record : Option (List Byte × Bool))
  /-- Program of one slot. -/
  | programSlot (slot : Nat) (bytes : List Byte) (attempt : Nat) (final : Bool)
  deriving DecidableEq, Repr

/-- A checkpoint request on its way to the store (R164). -/
inductive StoreNotice
  | boundary
  | jump
  | holdUp
  deriving DecidableEq, Repr, Inhabited

/-- A slot with the sequence number of its record. -/
structure SlotRef where
  slot : Nat
  seq : Nat
  deriving DecidableEq, Repr

/-- The five store counters (R177). -/
structure StoreCounters where
  written : Nat
  programFailures : Nat
  eraseFailures : Nat
  merged : Nat
  refused : Nat
  deriving DecidableEq, Repr

/-- The checkpoint store. -/
structure Store where
  commissioning : Commissioning
  condition : Condition
  lock : LockClass
  working : Option Working
  op : Option Operation
  /-- FAILED (R171); with `op` this is the store state of R158. -/
  failed : Bool
  /-- Pending request (R165). -/
  pending : Bool
  /-- Final report owed (R173). -/
  finalOwed : Bool
  /-- Write pointer (R167). -/
  pointer : Nat
  nextSeq : Nat
  newest : Option SlotRef
  restored : Option SlotRef
  counters : StoreCounters
  inbox : List StoreNotice
  /-- Configuration writes completed since the node reset (log 7). -/
  completions : Nat
  array : NvArray
  deriving DecidableEq, Repr

/-! ### Power supervisor (09) -/

/-- The node's operating state (R180..R183). -/
inductive OperatingState
  | start
  | run
  | holdUp
  deriving DecidableEq, Repr, Inhabited

/-- MNS after the debounce (R178). -/
inductive Mains
  | present
  | lost
  deriving DecidableEq, Repr, Inhabited

/-- A node reset decided but not yet taken effect (R186, R188). -/
inductive ResetPending
  | none
  | requested
  | parity
  deriving DecidableEq, Repr, Inhabited

/-- The final checkpoint's outcome (R186). -/
inductive FinalOutcome
  | written
  | notWritten
  deriving DecidableEq, Repr, Inhabited

/-- The kinds of node reset (R185, R186, R188). -/
inductive ResetKind
  | power
  | requested
  | parity
  deriving DecidableEq, Repr, Inhabited

/-- The cause record (R189, R190); last cause none after CLEAR-CAUSE. -/
structure CauseRecord where
  last : Option ResetKind
  requested : Nat
  parity : Nat
  duplicateId : Bool
  deriving DecidableEq, Repr

/-- The power supervisor. -/
structure Supervisor where
  /-- False in power-off (R184). -/
  powered : Bool
  op : OperatingState
  mains : Mains
  /-- The millisecond time the mains measurement runs from (R178). -/
  measure : Option Word32
  resetPending : ResetPending
  /-- The final report is awaited (R186). -/
  finalAwaited : Bool
  /-- Outcome held (R186). -/
  outcome : Option FinalOutcome
  /-- The response to RESTART-NODE has been sent (R186). -/
  armed : Bool
  cause : CauseRecord
  /-- The 200 ms measurement of power-off: milliseconds left (R184). -/
  powerUp : Option Nat
  /-- The POWER reset came by that measurement, and the supply's rise of the same power-up has not been taken (R184). -/
  riseDue : Bool
  deriving DecidableEq, Repr

/-! ### Collector port (10) -/

/-- The port state (R193). -/
inductive PortState
  | wait
  | receiving
  | executing
  | responding
  deriving DecidableEq, Repr, Inhabited

/-- A request: its kind byte and its body (R196, R213). -/
structure Request where
  kind : Byte
  body : List Byte
  deriving DecidableEq, Repr

/-- The collector port. -/
structure Port where
  state : PortState
  /-- The request in assembly (R195). -/
  assembly : List Byte
  /-- The gap timer: milliseconds left (R195). -/
  gap : Option Nat
  held : Option Request
  /-- The held request's execution has begun and waits for another block (R197). -/
  begun : Bool
  /-- The port has not taken the end of START yet (R180, R209). -/
  heldDue : Bool
  /-- The bytes being sent on CTX (R198). -/
  response : Option (List Byte)
  /-- Discarded-byte count (R193). -/
  discarded : Nat
  deriving DecidableEq, Repr

/-- The levels of the input lines (00, section 4). -/
structure Pins where
  /-- ISL active (R124). -/
  isl : Bool
  /-- CLR asserted (R50). -/
  clr : Bool
  /-- RXD high (R40). -/
  rxd : Bool
  /-- MNS high (R178). -/
  mns : Bool
  /-- SLO active (R184). -/
  slo : Bool
  deriving DecidableEq, Repr

/-- The whole block. -/
structure State where
  pins : Pins
  meter : Meter
  clock : Clock
  link : Link
  peers : Peers
  reckoning : Reckoning
  supply : Supply
  account : Account
  queue : SettlementQueue
  outputs : Outputs
  store : Store
  supervisor : Supervisor
  port : Port
  /-- The counter the free values are applied to (the model's own). -/
  freeCount : Nat
  /-- The commands that wait, first in, first out. -/
  pending : List Instr
  deriving DecidableEq, Repr

/-! ### The blocks after a node reset -/

/-- A channel after a node reset (R14). -/
def MeterChannel.initial : MeterChannel :=
  { state := .openChannel, lastPulse := none, expiry := 0, rejected := 0, counter := 0, accumulator := 0,
    counterParity := true, accumulatorParity := true }

/-- The meter input block after a node reset (R14). -/
def Meter.initial : Meter :=
  { imp := .initial, exp := .initial, timebase := 0, snapshot := ⟨0, 0⟩, snapshotParity := true, ring := [],
    restart := true, foldDue := false, inbox := [], epoch := 0 }

/-- The clock after a node reset with no configuration: code 2, r = L = 900 (R19, R33). -/
def Clock.initial : Clock :=
  { c := 0, r := 900, lengthCode := 2, alignment := .unaligned, window := none, farAhead := [], candidate := none,
    jumpCount := 0, jumps := 0, expiryDue := false, listenDue := false, epoch := 0, completionC := 0 }

/-- All link counters 0 (R58). -/
def LinkCounters.zero : LinkCounters := ⟨0, 0, 0, 0, 0, 0, 0, 0⟩

/-- The carrier link after a node reset (R58). -/
def Link.initial : Link :=
  { rx := .hunt, assembly := [], stall := none, breakTimer := none, queue := [], tx := .idle, schedule := [],
    scheduleCount := 0, elapsed := 0, copy := none, deferLimit := none, echoWindow := none, echoReference := none,
    req := false, counters := .zero, awaiting := none, inbox := [], power := [], epoch := 0 }

/-- All table counters 0 (R84). -/
def TableCounters.zero : TableCounters := ⟨0, 0, 0, 0, 0, 0, 0, 0, 0, 0⟩

/-- The peer table after a node reset (R84); the table interval is 0 until the selection event (log 17). -/
def Peers.initial : Peers :=
  { entries := [], tableInterval := 0, counters := .zero, taking := false, inbox := [], epoch := 0 }

/-- The reckoning unit after a node reset (R112). -/
def Reckoning.initial : Reckoning :=
  { pending := [], last := none, lastParity := true, noFigure := 0, repeats := 0, inForce := none, inbox := [], epoch := 0 }

/-- Supply sense after a node reset, the island line inactive (R131). -/
def Supply.initial : Supply :=
  { converter := .settling, settling := .running 2000, periodCount := 0, startDue := false, sequence := 0,
    flight := none, senseFault := false, inBandRun := 0, lastFeeder := none, lastReference := none,
    openRecord := ⟨0, 0, false, 0⟩, ring := [], lastClosed := .grid, skipped := 0, refFailures := 0, discarded := 0,
    inbox := [], power := [], epoch := 0 }

/-- A period with nothing posted (R139, R143). -/
def PeriodFigures.zero : PeriodFigures := ⟨0, false, 0, 0, 0, 0, 0, 0, 0, 0, 0, 0, 0⟩

/-- The account with no valid checkpoint (R143). -/
def Account.initial : Account :=
  { ledger := { figures := .zero, period := 0, opening := 0, summary := none }, parity := true }

/-- The settlement queue after a node reset (R148). -/
def SettlementQueue.initial : SettlementQueue := { records := [], lost := 0 }

/-- The indicator outputs after a node reset (R155). -/
def Outputs.initial : Outputs :=
  { held := none, duty := 0, period := 0, step := 0, base := 0, extension := 0, frameStartDue := true, sur := false,
    sht := false, lim := false, limDue := false, power := [], epoch := 0 }

/-- The array erased (log 15). -/
def NvArray.blank : NvArray :=
  { config := .erased, lock := .erased, slots := List.replicate 32 .erased }

/-- All store counters 0 (R176). -/
def StoreCounters.zero : StoreCounters := ⟨0, 0, 0, 0, 0⟩

/-- The store after a node reset over an erased array; pointer, next sequence number, newest and restored slot are those
of an empty ring until the selection event (R159, R175, R176, log 17). -/
def Store.initial : Store :=
  { commissioning := .fresh, condition := .good, lock := .blank, working := none, op := none, failed := false,
    pending := false, finalOwed := false, pointer := 0, nextSeq := 1, newest := none, restored := none,
    counters := .zero, inbox := [], completions := 0, array := .blank }

/-- The supervisor after a POWER reset with the mains present (R179, R189). -/
def Supervisor.initial : Supervisor :=
  { powered := true, op := .start, mains := .present, measure := none, resetPending := .none, finalAwaited := false,
    outcome := none, armed := false, cause := ⟨some .power, 0, 0, false⟩, powerUp := none, riseDue := false }

/-- The collector port after a node reset (R209). -/
def Port.initial : Port :=
  { state := .wait, assembly := [], gap := none, held := none, begun := false, heldDue := false, response := none,
    discarded := 0 }

/-- The lines at first power-up: no island, no clear feeder, RXD idle, mains present, SLO inactive (log 10). -/
def Pins.initial : Pins := { isl := false, clr := false, rxd := true, mns := true, slo := false }

/-- The machine right after the POWER reset of a first installation, in START (R179, R185; log 15). -/
def State.reset : State :=
  { pins := .initial, meter := .initial, clock := .initial, link := .initial, peers := .initial,
    reckoning := .initial, supply := .initial, account := .initial, queue := .initial, outputs := .initial,
    store := .initial, supervisor := .initial, port := .initial, freeCount := 0, pending := [] }

end Sys2Proof.Machine
end

