-- ==== Sys2Proof/Machine/Flags.lean ====
section
/-! DEFINITION. Saturating counters, timers, parity flags and the enumerations' numbers. -/

namespace Sys2Proof.Machine

/-! ### Counters (00_scope.md 5.3) -/

/-- One increment of a counter that stops at `limit`. -/
def satInc (limit n : Nat) : Nat := if n < limit then n + 1 else limit

/-- An addition to a total that stops at `limit`. -/
def satAdd (limit n k : Nat) : Nat := min limit (n + k)

/-- One increment of a 16-bit status counter. -/
def count16 (n : Nat) : Nat := satInc max16 n

/-- One increment of a count that saturates at 2^32-1 (R138). -/
def count32 (n : Nat) : Nat := satInc max32 n

/-! ### Timers -/

/-- One millisecond of a timer: stopped stays stopped, 0 milliseconds left stays due. -/
def tickDown (t : Option Nat) : Option Nat := t.map (· - 1)

/-- Whether a timer has run out and its expiry has not been taken. -/
def isDue (t : Option Nat) : Bool := t == some 0

/-- Whether the timebase has reached a due time, modulo 2^32 (R2, R116; log 4). -/
def reached (now due : Word32) : Bool := (now - due).toNat < 2147483648

/-- Milliseconds from `since` to `now`, modulo 2^32 (R178). -/
def sinceMs (now since : Word32) : Nat := (now - since).toNat

/-! ### Parity (R6, R112, R142) -/

/-- The parity flags of one channel's counter and accumulator. -/
def MeterChannel.parityOk (ch : MeterChannel) : Bool := ch.counterParity && ch.accumulatorParity

/-- The parity flags of the values handed to the store, the collector or a cut: both channels' counters and
accumulators (R6). -/
def Meter.countersOk (m : Meter) : Bool := m.imp.parityOk && m.exp.parityOk

/-- The parity flags read at a boundary: the values of the cut and the snapshot (R6, R8). -/
def Meter.boundaryOk (m : Meter) : Bool := m.countersOk && m.snapshotParity

/-! ### Enumerated values (R210) -/

/-- Supply state: GRID 0, STRAINED 1, ISLAND 2. -/
def SupplyState.code : SupplyState → Nat
  | .grid => 0
  | .strained => 1
  | .island => 2

/-- Severity runs ISLAND, then STRAINED, then GRID (R97). -/
def SupplyState.severer (a b : SupplyState) : SupplyState := if a.code < b.code then b else a

/-- A reported supply state, 3 for absent. -/
def supplyCode : Option SupplyState → Nat
  | some s => s.code
  | none => 3

/-- The supply state that bits 1..0 of a frame's status byte report; 3 is absent (R212). -/
def supplyOfCode : Nat → Option SupplyState
  | 0 => some .grid
  | 1 => some .strained
  | 2 => some .island
  | _ => none

/-- Supply source: OWN 0, PEER 1, HELD 2. -/
def SupplySource.code : SupplySource → Nat
  | .own => 0
  | .peer => 1
  | .held => 2

/-- Mode: POOLED 0, UNPOOLED 1, LONE 2. -/
def Mode.code : Mode → Nat
  | .pooled => 0
  | .unpooled => 1
  | .lone => 2

/-- Role: IDLE 0, SELLER 1, BUYER 2. -/
def Role.code : Role → Nat
  | .idle => 0
  | .seller => 1
  | .buyer => 2

/-- Direction: CREDIT 0, CHARGE 1. -/
def Direction.code : Direction → Nat
  | .credit => 0
  | .charge => 1

/-- Entry state: LEARNING 0, ACTIVE 1, SILENT 2, DISCORDANT 3. -/
def EntryState.code : EntryState → Nat
  | .learning => 0
  | .active => 1
  | .silent => 2
  | .discordant => 3

/-- Slot status: DIRECT 1, RECOVERED 2, BROKEN 3. -/
def SlotStatus.code : SlotStatus → Nat
  | .direct => 1
  | .recovered => 2
  | .broken => 3

/-- Commissioning state: FRESH 0, COMMISSIONED 1, LOCKED 2. -/
def Commissioning.code : Commissioning → Nat
  | .fresh => 0
  | .commissioned => 1
  | .locked => 2

/-- Last cause: NONE 0, POWER 1, REQUESTED 2, PARITY 3. -/
def causeCode : Option ResetKind → Nat
  | none => 0
  | some .power => 1
  | some .requested => 2
  | some .parity => 3

/-- Final outcome: WRITTEN 0, NOT-WRITTEN 1. -/
def FinalOutcome.code : FinalOutcome → Nat
  | .written => 0
  | .notWritten => 1

/-- Feeder classification: NORMAL 0, SAG 1, SWELL 2. -/
def FeederClass.code : FeederClass → Nat
  | .normal => 0
  | .sag => 1
  | .swell => 2

/-- Channel state, by its place in the state table of chapter 1 (R210). -/
def ChannelState.code : ChannelState → Nat
  | .openChannel => 0
  | .holdOff => 1

/-- Alignment state, by its place in the state table of chapter 2. -/
def Alignment.code : Alignment → Nat
  | .unaligned => 0
  | .aligned => 1

/-- Receive state: HUNT 0, RECEIVING 1, FAULT 2. -/
def RxState.code : RxState → Nat
  | .hunt => 0
  | .receiving => 1
  | .fault => 2

/-- Transmit state, by its place in the state table of chapter 3. -/
def TxState.code : TxState → Nat
  | .idle => 0
  | .waiting => 1
  | .sending => 2
  | .echo => 3
  | .suspended => 4

/-- Converter state: SETTLING 0, READY 1, CONVERTING 2, HALTED 3. -/
def ConverterState.code : ConverterState → Nat
  | .settling => 0
  | .ready => 1
  | .converting => 2
  | .halted => 3

/-- Configuration condition, by its place in the state table of chapter 8. -/
def Condition.code : Condition → Nat
  | .good => 0
  | .defective => 1

/-- Lock place, by its place in the state table of chapter 8. -/
def LockClass.code : LockClass → Nat
  | .blank => 0
  | .marked => 1
  | .spoilt => 2

/-- Operating state, by its place in the state table of chapter 9. -/
def OperatingState.code : OperatingState → Nat
  | .start => 0
  | .run => 1
  | .holdUp => 2

/-- Mains state, by its place in the state table of chapter 9. -/
def Mains.code : Mains → Nat
  | .present => 0
  | .lost => 1

/-- Reset pending, by its place in the state table of chapter 9. -/
def ResetPending.code : ResetPending → Nat
  | .none => 0
  | .requested => 1
  | .parity => 2

/-- Port state, by its place in the state table of chapter 10. -/
def PortState.code : PortState → Nat
  | .wait => 0
  | .receiving => 1
  | .executing => 2
  | .responding => 3

/-- A flag as one bit. -/
def flagBit (b : Bool) : Nat := if b then 1 else 0

/-- The store state as its number: IDLE 0, PROGRAMMING 1, ERASING 2, FAILED 3 (R158, R210). -/
def Store.stateCode (st : Store) : Nat :=
  if st.failed then 3 else
    match st.op with
    | none => 0
    | some (.programConfig _) => 1
    | some (.programLock _) => 1
    | some (.programSlot _ _ _ _) => 1
    | some (.eraseConfig _ _) => 2
    | some (.eraseSector _ _ _) => 2

/-- Whether the store state is IDLE (R158). -/
def Store.isIdle (st : Store) : Bool := st.op.isNone && !st.failed

end Sys2Proof.Machine
end

