-- ==== Sys2Proof/Machine/Operands.lean ====
section
/-! DEFINITION. Byte order, the 16-bit check, and how bytes that reach the part are read: the tally frame, the request
body and the array records (R210 to R216). -/

namespace Sys2Proof.Machine

/-! ### Byte order (R210) -/

/-- A number as `n` bytes, most significant first. -/
def beBytes : Nat → Nat → List Byte
  | 0, _ => []
  | n + 1, v => BitVec.ofNat 8 (v / 256 ^ n) :: beBytes n v

/-- The number that bytes spell, most significant first. -/
def beNat (bs : List Byte) : Nat := bs.foldl (fun acc b => acc * 256 + b.toNat) 0

/-- A signed number as `n` bytes in two's complement. -/
def beInt (n : Nat) (v : Int) : List Byte := beBytes n (v % ((256 ^ n : Nat) : Int)).toNat

/-- The signed number that bytes spell in two's complement over their width. -/
def beSigned (bs : List Byte) : Int :=
  if 2 * beNat bs < 256 ^ bs.length then (beNat bs : Int) else (beNat bs : Int) - ((256 ^ bs.length : Nat) : Int)

/-- The bytes of the field at an offset. -/
def fieldBytes (bs : List Byte) (offset size : Nat) : List Byte := (bs.drop offset).take size

/-- The unsigned field at an offset. -/
def fieldNat (bs : List Byte) (offset size : Nat) : Nat := beNat (fieldBytes bs offset size)

/-- An optional value: its presence byte and its value, 0 when absent (R210). -/
def presentNat (presence value : Nat) : Option Nat := if presence = 1 then some value else none

/-! ### The check (R211) -/

/-- One of the eight shifts of a byte. -/
def crcShift (r : Word16) : Word16 := if r.msb then (r <<< 1) ^^^ 0x1021#16 else r <<< 1

/-- One byte: exclusive-or into the upper 8 bits, then eight shifts. -/
def crcByte (r : Word16) (b : Byte) : Word16 :=
  crcShift (crcShift (crcShift (crcShift (crcShift (crcShift (crcShift (crcShift
    (r ^^^ (b.zeroExtend 16 <<< 8)))))))))

/-- The check over bytes in the order sent or stored: starts at 0xFFFF, not inverted. -/
def crc16 (bs : List Byte) : Word16 := bs.foldl crcByte 0xFFFF#16

/-- The check as its two bytes. -/
def checkBytes (bs : List Byte) : List Byte := beBytes 2 (crc16 bs).toNat

/-! ### The tally frame (R212) -/

/-- The fields of a tally frame's 24 content bytes that the peer table reads. -/
structure Frame where
  cooperative : Nat
  sender : Nat
  lengthCode : Nat
  ci : Nat
  ri : Nat
  exportWh : Nat
  importWh : Nat
  cumExport : Word32
  cumImport : Word32
  supply : Option SupplyState
  held : Bool
  saturated : Bool
  restarted : Bool
  deriving DecidableEq, Repr

/-- Reading of the content bytes; the content begins at offset 2 of the frame. -/
def Frame.ofContent (bs : List Byte) : Frame :=
  let status := fieldNat bs 22 1
  { cooperative := fieldNat bs 0 2
    sender := fieldNat bs 2 1
    lengthCode := fieldNat bs 3 1
    ci := fieldNat bs 4 4
    ri := fieldNat bs 8 2
    exportWh := fieldNat bs 10 2
    importWh := fieldNat bs 12 2
    cumExport := BitVec.ofNat 32 (fieldNat bs 14 4)
    cumImport := BitVec.ofNat 32 (fieldNat bs 18 4)
    supply := supplyOfCode (status % 4)
    held := status.testBit 2
    saturated := status.testBit 3
    restarted := status.testBit 4 }

/-! ### Interval length (02, 2.2) -/

/-- L in seconds for an interval length code; no other code passes R201 (log 20). -/
def intervalLength : Nat → Nat
  | 0 => 300
  | 1 => 600
  | 2 => 900
  | 3 => 1800
  | 4 => 3600
  | _ => 900

/-- Hour of day of interval k (R20). -/
def hourOfDay (lengthCode k : Nat) : Nat :=
  let l := intervalLength lengthCode
  (k % (86400 / l)) * l / 3600

/-! ### The configuration record (R215) -/

/-- Reading of the 96 field bytes. -/
def Configuration.ofBytes (bs : List Byte) : Configuration :=
  { cooperative := fieldNat bs 0 2
    nodeId := fieldNat bs 2 1
    lengthCode := fieldNat bs 3 1
    startInterval := fieldNat bs 4 4
    startRemaining := fieldNat bs 8 2
    importWeight := fieldNat bs 10 1
    exportWeight := fieldNat bs 11 1
    spacing := fieldNat bs 12 2
    copies := fieldNat bs 14 1
    guardSeconds := fieldNat bs 15 1
    quorum := fieldNat bs 16 1
    levy := fieldNat bs 17 2
    bandMap := (List.range 24).map fun h => fieldNat bs (19 + h) 1
    prices := (List.range 20).map fun p => fieldNat bs (43 + 2 * p) 2
    accumulationCode := fieldNat bs 83 1
    sensePeriod := fieldNat bs 84 1
    windowLow := fieldNat bs 85 2
    windowHigh := fieldNat bs 87 2
    strain := fieldNat bs 89 1
    limitFloor := beSigned (fieldBytes bs 90 6) }

/-- The smallest limit floor and balance, -(2^47-1) µu (R153). -/
abbrev balanceLimit : Int := 140737488355327

/-- Whether a starting interval number is accepted: not below c, and above the last reckoned interval (R201). -/
def startAccepted (start c : Nat) (last : Option Nat) : Bool :=
  c ≤ start && (match last with | some k => decide (k < start) | none => true)

/-- Each field's index and whether it is accepted, in index order (R201, R215). -/
def Configuration.checks (g : Configuration) (c : Nat) (last : Option Nat) : List (Nat × Bool) :=
  [ (1, decide (1 ≤ g.cooperative ∧ g.cooperative ≤ 65535)),
    (2, decide (1 ≤ g.nodeId ∧ g.nodeId ≤ 250)),
    (3, decide (g.lengthCode ≤ 4)),
    (4, startAccepted g.startInterval c last),
    (5, decide (1 ≤ g.startRemaining ∧ g.startRemaining ≤ intervalLength g.lengthCode)),
    (6, decide (1 ≤ g.importWeight ∧ g.importWeight ≤ 100)),
    (7, decide (1 ≤ g.exportWeight ∧ g.exportWeight ≤ 100)),
    (8, decide (20 ≤ g.spacing ∧ g.spacing ≤ 2000)),
    (9, decide (2 ≤ g.copies ∧ g.copies ≤ 4)),
    (10, decide (10 ≤ g.guardSeconds ∧ g.guardSeconds ≤ 120)),
    (11, decide (g.quorum ≤ 100)),
    (12, decide (g.levy ≤ 1000)) ]
  ++ g.bandMap.mapIdx (fun h b => (13 + h, decide (b ≤ 3)))
  ++ [ (57, decide (g.accumulationCode ≤ 7)),
    (58, decide (2 ≤ g.sensePeriod ∧ g.sensePeriod ≤ 60)),
    (60, decide (g.windowLow ≤ g.windowHigh)),
    (61, decide (1 ≤ g.strain ∧ g.strain ≤ 15)),
    (62, decide (-balanceLimit ≤ g.limitFloor ∧ g.limitFloor ≤ 0)) ]

/-- The index of the first field that fails, if one does (R201). -/
def Configuration.firstBad (g : Configuration) (c : Nat) (last : Option Nat) : Option Nat :=
  ((g.checks c last).find? fun p => !p.2).map (·.1)

/-! ### The array's places (R157, R215, R216) -/

/-- Bytes of the configuration record and of a checkpoint record. -/
abbrev configurationBytes : Nat := 98
abbrev checkpointBytes : Nat := 191

/-- Whether a record's last two bytes agree with the check over the bytes before them, and it has the given length. -/
def checkAgrees (size : Nat) (bs : List Byte) : Bool :=
  bs.length == size && bs.drop (size - 2) == checkBytes (bs.take (size - 2))

/-- Whether a place holds bytes that are not all erased and whose check agrees; the bytes if so. -/
def Place.passing (size : Nat) : Place → Option (List Byte)
  | .written bs => if !bs.all (· == 0xFF#8) && checkAgrees size bs then some bs else none
  | .erased => none
  | .damaged => none

/-- Whether every byte of a place reads erased. -/
def Place.isBlank : Place → Bool
  | .erased => true
  | .written bs => bs.all (· == 0xFF#8)
  | .damaged => false

/-- The working configuration a configuration place gives, if its record passes (R159). -/
def Place.working (p : Place) : Option Working :=
  (p.passing configurationBytes).map fun bs =>
    { record := .ofBytes (bs.take 96), check := BitVec.ofNat 16 (fieldNat bs 96 2) }

/-- The lock marker of a check value: the value, then its inversion, 4 bytes (R215). -/
def lockMarker (v : Word16) : List Byte := beBytes 2 v.toNat ++ beBytes 2 (~~~v).toNat

/-- The check value 4 bytes of the lock place hold: the first two bytes, if the last two are their inversion (R215). -/
def lockValue (bs : List Byte) : Option Word16 :=
  let v := BitVec.ofNat 16 (fieldNat bs 0 2)
  if bs = lockMarker v then some v else none

/-- The check value held in the lock place, if it holds one and its inversion (R160, R215). -/
def Place.lockCheck : Place → Option Word16
  | .written bs => lockValue bs
  | .erased => none
  | .damaged => none

/-- The class of the lock place, given the check value of a record that passes (R159, R215). -/
def Place.lockClass (record : Option Word16) (p : Place) : LockClass :=
  if p.isBlank then .blank else
    match p.lockCheck with
    | some v => if record.all (· == v) then .marked else .spoilt
    | none => .spoilt

/-! ### The checkpoint record (R216) -/

/-- What a checkpoint record holds (R166). -/
structure Checkpoint where
  seq : Nat
  tag : Word16
  cumExport : Word32
  cumImport : Word32
  c : Nat
  last : Option Nat
  ledger : Ledger
  deriving DecidableEq, Repr

/-- Balance, flag, totals and counts from their 71 bytes. -/
def PeriodFigures.ofBytes (bs : List Byte) : PeriodFigures :=
  { balance := beSigned (fieldBytes bs 0 6)
    saturated := fieldNat bs 6 1 == 1
    credits := fieldNat bs 7 8
    charges := fieldNat bs 15 8
    levy := fieldNat bs 23 8
    soldPeers := fieldNat bs 31 6
    soldSurplus := fieldNat bs 37 6
    boughtPeers := fieldNat bs 43 6
    boughtBackup := fieldNat bs 49 6
    pooled := fieldNat bs 55 4
    unpooled := fieldNat bs 59 4
    lone := fieldNat bs 63 4
    cutShort := fieldNat bs 67 4 }

/-- A closed-period summary from its 86 bytes. -/
def Summary.ofBytes (bs : List Byte) : Summary :=
  { period := fieldNat bs 0 4
    opening := fieldNat bs 4 4
    closing := presentNat (fieldNat bs 8 1) (fieldNat bs 9 4)
    figures := .ofBytes (fieldBytes bs 13 71)
    lost := fieldNat bs 84 2 }

/-- The account from its 166 bytes. -/
def Ledger.ofBytes (bs : List Byte) : Ledger :=
  { figures := .ofBytes (fieldBytes bs 0 71)
    period := fieldNat bs 71 4
    opening := fieldNat bs 75 4
    summary := if fieldNat bs 79 1 = 1 then some (.ofBytes (fieldBytes bs 80 86)) else none }

/-- The sequence number a slot's bytes carry. -/
def checkpointSeq (bs : List Byte) : Nat := fieldNat bs 0 4

/-- The configuration tag a slot's bytes carry. -/
def checkpointTag (bs : List Byte) : Word16 := BitVec.ofNat 16 (fieldNat bs 4 2)

/-- Reading of a checkpoint record's bytes. -/
def Checkpoint.ofBytes (bs : List Byte) : Checkpoint :=
  { seq := checkpointSeq bs
    tag := checkpointTag bs
    cumExport := BitVec.ofNat 32 (fieldNat bs 6 4)
    cumImport := BitVec.ofNat 32 (fieldNat bs 10 4)
    c := fieldNat bs 14 4
    last := presentNat (fieldNat bs 18 1) (fieldNat bs 19 4)
    ledger := .ofBytes (fieldBytes bs 23 166) }

/-! ### Requests (R196, R213) -/

/-- The request kinds by their kind byte. -/
inductive RequestKind
  | status
  | account
  | peekRecords
  | takeRecords
  | peers
  | commission
  | lock
  | closePeriod
  | restartBlock
  | restartNode
  | clearCause
  deriving DecidableEq, Repr, Inhabited

/-- The kind byte of each request (R213). -/
def RequestKind.byte : RequestKind → Byte
  | .status => 0x01#8
  | .account => 0x02#8
  | .peekRecords => 0x03#8
  | .takeRecords => 0x04#8
  | .peers => 0x05#8
  | .commission => 0x06#8
  | .lock => 0x07#8
  | .closePeriod => 0x08#8
  | .restartBlock => 0x09#8
  | .restartNode => 0x0A#8
  | .clearCause => 0x0B#8

/-- The request a kind byte names; none for an unknown kind (R196). -/
def RequestKind.ofByte (b : Byte) : Option RequestKind :=
  [RequestKind.status, .account, .peekRecords, .takeRecords, .peers, .commission, .lock, .closePeriod, .restartBlock,
    .restartNode, .clearCause].find? fun k => k.byte == b

/-- The body length of each request (R196). -/
def RequestKind.bodyLength : RequestKind → Nat
  | .status => 0
  | .account => 0
  | .peekRecords => 1
  | .takeRecords => 1
  | .peers => 1
  | .commission => 96
  | .lock => 0
  | .closePeriod => 0
  | .restartBlock => 1
  | .restartNode => 0
  | .clearCause => 0

/-- The two blocks RESTART-BLOCK names. -/
inductive BlockSelector
  | line
  | sense
  deriving DecidableEq, Repr, Inhabited

/-- Block selector: LINE 1, SENSE 2 (R210). -/
def BlockSelector.ofByte (b : Byte) : Option BlockSelector :=
  if b = 1#8 then some .line else if b = 2#8 then some .sense else none

/-- Response codes (R210). -/
inductive ResponseCode
  | ok
  | busy
  | locked
  | notCommissioned
  | badValue
  | malformed
  | storeFailed
  deriving DecidableEq, Repr, Inhabited

/-- The code byte of each response code. -/
def ResponseCode.byte : ResponseCode → Byte
  | .ok => 0#8
  | .busy => 1#8
  | .locked => 2#8
  | .notCommissioned => 3#8
  | .badValue => 4#8
  | .malformed => 5#8
  | .storeFailed => 6#8

end Sys2Proof.Machine
end

