-- ==== Sys2Proof/Machine/Layouts.lean ====
section
/-! DEFINITION. The bytes the part writes: tally frame, envelopes, settlement and checkpoint records, and the blocks of
the collector's responses (R210 to R216). -/

namespace Sys2Proof.Machine

/-- An optional value: presence byte, then the value's bytes, 0 when absent (R210). -/
def optionBytes (n : Nat) (v : Option Nat) : List Byte :=
  match v with
  | some x => 1#8 :: beBytes n x
  | none => 0#8 :: beBytes n 0

/-- A flag that stands alone (R210). -/
def flagByte (b : Bool) : Byte := if b then 1#8 else 0#8

/-- One byte of a small number. -/
def byteOf (n : Nat) : Byte := BitVec.ofNat 8 n

/-! ### The tally frame (R212) -/

/-- The status byte of ci - 1. -/
def statusByte (state : SupplyState) (held saturated restarted : Bool) : Byte :=
  byteOf (state.code + 4 * flagBit held + 8 * flagBit saturated + 16 * flagBit restarted)

/-- The 24 content bytes of a copy built from the own record and the closed supply record's state (R51). -/
def frameContent (g : Configuration) (ci ri : Nat) (own : OwnRecord) (state : SupplyState) (held : Bool)
    (copy : CopyMark) : List Byte :=
  beBytes 2 g.cooperative ++ beBytes 1 g.nodeId ++ beBytes 1 g.lengthCode ++ beBytes 4 ci ++ beBytes 2 ri
    ++ beBytes 2 own.exportWh ++ beBytes 2 own.importWh
    ++ beBytes 4 own.cumExport.toNat ++ beBytes 4 own.cumImport.toNat
    ++ [statusByte state held own.saturated own.restarted, byteOf (16 * copy.count + copy.index)]

/-- A whole frame: start mark, length, content and check. -/
def frameBytes (content : List Byte) : List Byte := 0xC3#8 :: 24#8 :: (content ++ checkBytes content)

/-! ### Envelopes (R213) -/

/-- A request or response envelope. -/
def envelope (kind : Byte) (body : List Byte) : List Byte :=
  0x5A#8 :: (kind :: byteOf body.length :: body ++ checkBytes (kind :: byteOf body.length :: body))

/-! ### The settlement record (R214) -/

/-- The village block. -/
def VillageBlock.bytes (v : VillageBlock) : List Byte :=
  beBytes 1 v.counted ++ beBytes 1 v.expected ++ beBytes 4 v.supply ++ beBytes 4 v.demand

/-- The price block. -/
def PriceBlock.bytes (p : PriceBlock) : List Byte :=
  beBytes 2 p.matched ++ beBytes 2 p.unmatched ++ beBytes 2 p.peerPrice ++ beBytes 2 p.secondPrice
    ++ beBytes 4 p.amount ++ beBytes 1 p.direction.code ++ beBytes 4 p.levy

/-- The form byte. -/
def SettlementRecord.formByte (x : SettlementRecord) : Byte :=
  byteOf (x.mode.code + 4 * flagBit x.cutShort + 8 * x.role.code + 32 * flagBit x.saturated
    + 64 * flagBit x.village.isSome + 128 * flagBit x.price.isSome)

/-- A settlement record as PEEK-RECORDS and TAKE-RECORDS return it. -/
def SettlementRecord.bytes (x : SettlementRecord) : List Byte :=
  beBytes 4 x.interval ++ beBytes 1 x.band ++ [byteOf (x.supplyState.code + 4 * x.source.code), x.formByte]
    ++ beBytes 2 x.ownExport ++ beBytes 2 x.ownImport
    ++ ((x.village.map VillageBlock.bytes).getD []) ++ ((x.price.map PriceBlock.bytes).getD [])
    ++ beInt 6 x.balance

/-! ### The account block and the checkpoint record (R144, R213, R216) -/

/-- Balance, flag, totals and counts: 71 bytes. -/
def PeriodFigures.bytes (p : PeriodFigures) : List Byte :=
  beInt 6 p.balance ++ [flagByte p.saturated] ++ beBytes 8 p.credits ++ beBytes 8 p.charges ++ beBytes 8 p.levy
    ++ beBytes 6 p.soldPeers ++ beBytes 6 p.soldSurplus ++ beBytes 6 p.boughtPeers ++ beBytes 6 p.boughtBackup
    ++ beBytes 4 p.pooled ++ beBytes 4 p.unpooled ++ beBytes 4 p.lone ++ beBytes 4 p.cutShort

/-- A closed-period summary: 86 bytes. -/
def Summary.bytes (x : Summary) : List Byte :=
  beBytes 4 x.period ++ beBytes 4 x.opening ++ optionBytes 4 x.closing ++ x.figures.bytes ++ beBytes 2 x.lost

/-- The account: 166 bytes, in a checkpoint record (offsets 23 to 188) and in an ACCOUNT response alike. -/
def Ledger.bytes (a : Ledger) : List Byte :=
  a.figures.bytes ++ beBytes 4 a.period ++ beBytes 4 a.opening
    ++ (match a.summary with
        | some x => 1#8 :: x.bytes
        | none => 0#8 :: List.replicate 86 0#8)

/-- The 189 bytes a checkpoint record's check covers. -/
def Checkpoint.fields (x : Checkpoint) : List Byte :=
  beBytes 4 x.seq ++ beBytes 2 x.tag.toNat ++ beBytes 4 x.cumExport.toNat ++ beBytes 4 x.cumImport.toNat
    ++ beBytes 4 x.c ++ optionBytes 4 x.last ++ x.ledger.bytes

/-- A checkpoint record: 191 bytes. -/
def Checkpoint.bytes (x : Checkpoint) : List Byte := x.fields ++ checkBytes x.fields

/-- A configuration record from its 96 field bytes: 98 bytes (R215). -/
def configurationRecord (body : List Byte) : List Byte := body ++ checkBytes body

/-! ### Peer entries (R213) -/

/-- A held slot: 9 bytes. -/
def Slot.bytes (x : Slot) : List Byte :=
  beBytes 4 x.label
    ++ [byteOf (x.status.code + 4 * supplyCode x.supply + 16 * flagBit x.saturated + 32 * flagBit x.senderHeld)]
    ++ beBytes 2 x.exportWh ++ beBytes 2 x.importWh

/-- An anchor: 12 bytes. -/
def Anchor.bytes (a : Anchor) : List Byte :=
  beBytes 4 a.interval ++ beBytes 4 a.cumExport.toNat ++ beBytes 4 a.cumImport.toNat

/-- The entry flags byte. -/
def Entry.flags (e : Entry) : Byte :=
  byteOf (e.state.code + 4 * flagBit e.restartedSeen + 8 * flagBit e.lead.isSome + 16 * flagBit e.anchor.isSome
    + 32 * e.slots.length)

/-- A peer entry of a PEERS response. -/
def Entry.bytes (e : Entry) : List Byte :=
  beBytes 1 e.id ++ [e.flags] ++ beBytes 1 e.age ++ beBytes 2 e.heard
    ++ ((e.lead.map (beInt 4)).getD []) ++ ((e.anchor.map Anchor.bytes).getD [])
    ++ (e.slots.map Slot.bytes).flatten

/-! ### The status block (R199, R213), block by block -/

/-- One channel: R2, R4, R5. -/
def MeterChannel.status (ch : MeterChannel) : List Byte :=
  beBytes 1 ch.state.code ++ optionBytes 4 (ch.lastPulse.map BitVec.toNat) ++ beBytes 2 ch.rejected
    ++ beBytes 4 ch.counter.toNat ++ beBytes 4 ch.accumulator.toNat

/-- Meter input block: R1, R2, R4. -/
def Meter.status (m : Meter) : List Byte :=
  beBytes 4 m.timebase.toNat ++ m.imp.status ++ m.exp.status

/-- Interval clock: R35. -/
def Clock.status (k : Clock) : List Byte :=
  beBytes 4 k.c ++ beBytes 2 k.r ++ beBytes 1 k.lengthCode ++ beBytes 1 k.alignment.code
    ++ beBytes 2 (k.window.getD 0) ++ beBytes 1 k.farAhead.length ++ [flagByte k.candidate.isSome]
    ++ beBytes 2 k.jumpCount

/-- The eight link counters in the order of the state table of chapter 3. -/
def LinkCounters.status (x : LinkCounters) : List Byte :=
  beBytes 2 x.good ++ beBytes 2 x.checkFailures ++ beBytes 2 x.stalls ++ beBytes 2 x.overruns ++ beBytes 2 x.breaks
    ++ beBytes 2 x.sent ++ beBytes 2 x.missed ++ beBytes 2 x.collisions

/-- Carrier link: R59. -/
def Link.status (k : Link) : List Byte :=
  beBytes 1 k.rx.code ++ beBytes 1 k.tx.code ++ beBytes 1 k.queue.length ++ beBytes 1 k.schedule.length
    ++ k.counters.status

/-- The ten table counters in the order of R86. -/
def TableCounters.status (x : TableCounters) : List Byte :=
  beBytes 2 x.foreign ++ beBytes 2 x.duplicate ++ beBytes 2 x.parityDiscards ++ beBytes 2 x.tableFull
    ++ beBytes 2 x.ahead ++ beBytes 2 x.late ++ beBytes 2 x.discordant ++ beBytes 2 x.peerRestarts
    ++ beBytes 2 x.recovered ++ beBytes 2 x.broken

/-- Peer table: R86. -/
def Peers.status (p : Peers) : List Byte :=
  beBytes 1 p.entries.length ++ beBytes 4 p.tableInterval ++ p.counters.status

/-- Reckoning unit: R114. -/
def Reckoning.status (u : Reckoning) : List Byte :=
  optionBytes 4 u.last ++ beBytes 1 u.pending.length ++ beBytes 2 u.noFigure ++ beBytes 2 u.repeats

/-- The last feeder result: presence, result, classification, validity (R210). -/
def feederBytes : Option FeederResult → List Byte
  | some x => 1#8 :: (beBytes 2 x.result ++ beBytes 1 x.cls.code ++ [flagByte x.valid])
  | none => List.replicate 5 0#8

/-- One record of the supply record ring: interval, closed state, source (R213). -/
def SupplyRecord.bytes (x : SupplyRecord) : List Byte :=
  beBytes 4 x.interval ++ beBytes 1 x.state.code ++ beBytes 1 x.source.code

/-- Supply sense: R134, with A and P in force and the level of ISL. -/
def Supply.status (u : Supply) (accumulation period : Nat) (isl : Bool) : List Byte :=
  beBytes 1 u.converter.code ++ [flagByte u.senseFault] ++ beBytes 1 u.inBandRun ++ beBytes 1 u.sequence
    ++ beBytes 1 accumulation ++ beBytes 1 period ++ feederBytes u.lastFeeder ++ optionBytes 2 u.lastReference
    ++ [flagByte isl] ++ beBytes 2 u.openRecord.sag ++ beBytes 2 u.openRecord.swell
    ++ [flagByte u.openRecord.island] ++ beBytes 2 u.openRecord.valid
    ++ beBytes 1 u.ring.length ++ (u.ring.map SupplyRecord.bytes).flatten ++ beBytes 1 u.lastClosed.code
    ++ beBytes 2 u.skipped ++ beBytes 2 u.refFailures ++ beBytes 2 u.discarded

/-- Settlement queue: R148. -/
def SettlementQueue.status (q : SettlementQueue) : List Byte :=
  beBytes 1 q.records.length ++ optionBytes 4 (q.records.head?.map (·.interval))
    ++ optionBytes 4 (q.records.getLast?.map (·.interval)) ++ beBytes 2 q.lost

/-- Indicator outputs: R156. -/
def Outputs.status (o : Outputs) : List Byte :=
  beBytes 2 o.duty ++ [flagByte o.sht, flagByte o.lim] ++ optionBytes 1 (o.held.map fun h => h.mode.code)

/-- A slot with its sequence number, or none. -/
def slotRefBytes : Option SlotRef → List Byte
  | some x => 1#8 :: (beBytes 1 x.slot ++ beBytes 4 x.seq)
  | none => List.replicate 6 0#8

/-- Checkpoint store: R177. -/
def Store.status (t : Store) : List Byte :=
  beBytes 1 t.commissioning.code ++ beBytes 1 t.condition.code ++ beBytes 1 t.lock.code ++ beBytes 1 t.stateCode
    ++ [flagByte t.pending] ++ beBytes 1 t.pointer ++ beBytes 4 t.nextSeq
    ++ slotRefBytes t.newest ++ slotRefBytes t.restored
    ++ beBytes 2 t.counters.written ++ beBytes 2 t.counters.programFailures ++ beBytes 2 t.counters.eraseFailures
    ++ beBytes 2 t.counters.merged ++ beBytes 2 t.counters.refused

/-- Power supervisor: R192, with the levels of MNS and SLO. -/
def Supervisor.status (u : Supervisor) (mns slo : Bool) : List Byte :=
  beBytes 1 u.op.code ++ beBytes 1 u.mains.code ++ [flagByte mns, flagByte slo] ++ beBytes 1 u.resetPending.code
    ++ beBytes 1 (causeCode u.cause.last) ++ beBytes 2 u.cause.requested ++ beBytes 2 u.cause.parity
    ++ [flagByte u.cause.duplicateId]

end Sys2Proof.Machine
end

