-- ==== Sys2Proof/Machine/Ops.lean ====
section
/-! DEFINITION. The operations that several commands share: one block of State replaced, the parameters in force,
notifications between blocks, rings, the indicator outputs' lines, and the port's response. -/

namespace Sys2Proof.Machine

/-! ### One block replaced -/

namespace State

def setPins (s : State) (v : Pins) : State := { s with pins := v }
def setMeter (s : State) (v : Meter) : State := { s with meter := v }
def setClock (s : State) (v : Clock) : State := { s with clock := v }
def setLink (s : State) (v : Link) : State := { s with link := v }
def setPeers (s : State) (v : Peers) : State := { s with peers := v }
def setReckoning (s : State) (v : Reckoning) : State := { s with reckoning := v }
def setSupply (s : State) (v : Supply) : State := { s with supply := v }
def setAccount (s : State) (v : Account) : State := { s with account := v }
def setQueue (s : State) (v : SettlementQueue) : State := { s with queue := v }
def setOutputs (s : State) (v : Outputs) : State := { s with outputs := v }
def setStore (s : State) (v : Store) : State := { s with store := v }
def setSupervisor (s : State) (v : Supervisor) : State := { s with supervisor := v }
def setPort (s : State) (v : Port) : State := { s with port := v }
def setFree (s : State) (v : Nat) : State := { s with freeCount := v }

end State

/-! ### Parameters in force (R160): the working configuration's, or those each chapter gives for FRESH. A block reads them
there from the completion of a configuration write on; what that gives before the block's own take of it is log 41 for
supply sense, log 50 for the meter input block, log 53 for the carrier link, and log 55 for the peer table, the collector
port and the indicator outputs. -/

/-- The working configuration, if there is one. -/
def State.config (s : State) : Option Configuration := s.store.working.map (·.record)

/-- The pulse weight of a channel; 1 Wh with no configuration (R3). Between a completion and COMMISSIONING_CUT it is the
new one (log 50). -/
def State.weight (s : State) (ch : Channel) : Nat :=
  match s.config, ch with
  | some g, .imp => g.importWeight
  | some g, .exp => g.exportWeight
  | none, _ => 1

/-- The pulse spacing in ms; 20 with no configuration (R3, log 50). -/
def State.spacing (s : State) : Nat := (s.config.map (·.spacing)).getD 20

/-- The interval length code; 2 with no configuration (R19). -/
def State.configuredCode (s : State) : Nat := (s.config.map (·.lengthCode)).getD 2

/-- The accumulation count A; 16 with no configuration (R121, log 41). -/
def State.accumulation (s : State) : Nat := 2 ^ (s.config.map (·.accumulationCode)).getD 4

/-- The sense period P in seconds; 10 with no configuration (R121). -/
def State.sensePeriod (s : State) : Nat := (s.config.map (·.sensePeriod)).getD 10

/-- The lower window bound; 0 with no configuration (R121, log 41). -/
def State.windowLow (s : State) : Nat := (s.config.map (·.windowLow)).getD 0

/-- The upper window bound; 65,535 with no configuration (R121). -/
def State.windowHigh (s : State) : Nat := (s.config.map (·.windowHigh)).getD 65535

/-- The strain threshold T; 15 with no configuration (R121). -/
def State.strain (s : State) : Nat := (s.config.map (·.strain)).getD 15

/-- The limit floor; none with no configuration (R153). -/
def State.limitFloor (s : State) : Option Int := s.config.map (·.limitFloor)

/-! ### Parameters a reckoning is made under: the configuration the unit has taken (R99, log 46) -/

/-- The interval length code of the hour of day; 2 with no configuration (R20, R19). -/
def State.reckonedCode (s : State) : Nat := (s.reckoning.inForce.map (·.lengthCode)).getD 2

/-- The band of an hour; 0 with no configuration (R132). -/
def State.band (s : State) (hour : Nat) : Nat := (s.reckoning.inForce.map fun g => g.bandMap.getD hour 0).getD 0

/-- Price `k` of a band, 0 P_peer, 1 P_surp, 2..4 P_back GRID, STRAINED, ISLAND; 0 with no configuration (R133). -/
def State.price (s : State) (band k : Nat) : Nat :=
  (s.reckoning.inForce.map fun g => g.prices.getD (5 * band + k) 0).getD 0

/-- The quorum; a free value with no configuration (log 20). -/
def State.quorum (s : State) : Nat := (s.reckoning.inForce.map (·.quorum)).getD Config.quorumUnset

/-- The levy; a free value with no configuration (log 20). -/
def State.levy (s : State) : Nat := (s.reckoning.inForce.map (·.levy)).getD Config.levyUnset

/-! ### Interval length -/

/-- L of the clock (R19). -/
def Clock.length (k : Clock) : Nat := intervalLength k.lengthCode

/-! ### Interval numbers (log 13) -/

/-- An interval number as it is stored: itself within the range, a free value beyond it. -/
def State.storedInterval (s : State) (n : Nat) : Nat :=
  if n ≤ max32 then n else (Config.intervalBeyond s.freeCount).toNat

/-- The counter of free values after storing an interval number. -/
def State.spentInterval (s : State) (n : Nat) : State :=
  if n ≤ max32 then s else s.setFree (s.freeCount + 1)

/-! ### Free values about the array (log 14) -/

/-- One free yes or no, and the state with the counter of free values advanced. -/
def State.draw (s : State) : Bool × State := (Config.placeTouched s.freeCount, s.setFree (s.freeCount + 1))

/-! ### Notifications (R17, R30, R182, R183; log 6, log 7) -/

/-- A clock notification to all six blocks. -/
def State.notify (n : Notice) (request : StoreNotice) (s : State) : State :=
  { s with
    meter := { s.meter with inbox := s.meter.inbox ++ [n] }
    peers := { s.peers with inbox := s.peers.inbox ++ [n] }
    reckoning := { s.reckoning with inbox := s.reckoning.inbox ++ [n] }
    supply := { s.supply with inbox := s.supply.inbox ++ [n] }
    link := { s.link with inbox := s.link.inbox ++ [n] }
    store := { s.store with inbox := s.store.inbox ++ [request] } }

/-- HOLD-UP entry notified to the link, supply sense, the outputs and the store (R182). -/
def State.notifyEntry (s : State) : State :=
  { s with
    link := { s.link with power := s.link.power ++ [.entry] }
    supply := { s.supply with power := s.supply.power ++ [.entry] }
    outputs := { s.outputs with power := s.outputs.power ++ [.entry] }
    store := { s.store with inbox := s.store.inbox ++ [.holdUp] } }

/-- HOLD-UP exit notified to the link, supply sense and the outputs (R183). -/
def State.notifyExit (s : State) : State :=
  { s with
    link := { s.link with power := s.link.power ++ [.exit] }
    supply := { s.supply with power := s.supply.power ++ [.exit] }
    outputs := { s.outputs with power := s.outputs.power ++ [.exit] } }

/-- What a block finds at the front of its inbox when an event is to be taken: no occasion; a notification issued before a
configuration write completed, which is discarded (R13, R54, R83, R130); or the notification. -/
inductive Delivery (α : Type)
  | noOccasion
  | discarded (rest : List Notice)
  | delivered (item : α) (rest : List Notice)
  deriving DecidableEq, Repr

/-- The three items of a boundary notification (R17). -/
structure BoundaryNotice where
  k : Nat
  newC : Nat
  alignment : Alignment
  deriving DecidableEq, Repr

/-- The three items of a jump notification (R30). -/
structure JumpNotice where
  oldC : Nat
  newC : Nat
  alignment : Alignment
  deriving DecidableEq, Repr

/-- A notification of epoch `e` at the front of the inbox of a block with this epoch. It is discarded from the completion
of a later write on, whether the block has taken that completion yet or not; and one issued after a completion waits until
the block has taken it (R161, log 7). -/
def Delivery.front {α : Type} (completions epoch e : Nat) (item : α) (rest : List Notice) : Delivery α :=
  if e < completions then .discarded rest else if e = epoch then .delivered item rest else .noOccasion

/-- A boundary at the front of the inbox of a block with this epoch, with this many configuration writes completed. -/
def boundaryFront (completions epoch : Nat) : List Notice → Delivery BoundaryNotice
  | .boundary k newC a e :: rest => .front completions epoch e ⟨k, newC, a⟩ rest
  | .jump _ _ _ _ :: _ => .noOccasion
  | [] => .noOccasion

/-- A jump at the front of the inbox of a block with this epoch, with this many configuration writes completed. -/
def jumpFront (completions epoch : Nat) : List Notice → Delivery JumpNotice
  | .jump oldC newC a e :: rest => .front completions epoch e ⟨oldC, newC, a⟩ rest
  | .boundary _ _ _ _ :: _ => .noOccasion
  | [] => .noOccasion

/-- Whether a block with this epoch has a completed configuration write still to take (R161). -/
def State.completionDue (s : State) (epoch : Nat) : Bool := epoch < s.store.completions

/-- The clock's c as the completion of a configuration write leaves it (R32). -/
def State.numberedC (s : State) : Nat :=
  match s.config with
  | some g => if s.clock.c ≤ g.startInterval then g.startInterval else s.clock.c
  | none => s.clock.c

/-- The clock's c at the completion, for a block that takes the completion before or after the clock does (log 8). -/
def State.completionC (s : State) : Nat :=
  if s.completionDue s.clock.epoch then s.numberedC else s.clock.completionC

/-! ### Rings (R9, R11, R127, R128) -/

/-- Records a ring holds at most. -/
abbrev ringSize : Nat := 3

/-- A ring without the record of the lowest interval. -/
def dropLowest {α : Type} (interval : α → Nat) (ring : List α) : List α :=
  ring.eraseP fun y => ring.all fun z => decide (interval y ≤ interval z)

/-- A record enters a ring last; a full ring first loses the record of the lowest interval (R9, R127). -/
def enterRing {α : Type} (interval : α → Nat) (ring : List α) (x : α) : List α :=
  (if ring.length < ringSize then ring else dropLowest interval ring) ++ [x]

/-- The own figure record of interval k, if held (R11). -/
def Meter.recordOf (m : Meter) (k : Nat) : Option OwnRecord := m.ring.find? fun x => x.interval == k

/-- The ring without the record of k (R11). -/
def Meter.release (m : Meter) (k : Nat) : Meter := { m with ring := m.ring.filter fun x => x.interval != k }

/-- The closed supply record of interval k, if held (R128). -/
def Supply.recordOf (u : Supply) (k : Nat) : Option SupplyRecord := u.ring.find? fun x => x.interval == k

/-- The ring without the record of k (R128). -/
def Supply.release (u : Supply) (k : Nat) : Supply := { u with ring := u.ring.filter fun x => x.interval != k }

/-! ### The household lines (R150, R152, R153) -/

/-- The duty a held result gives (R150). -/
def dutyOf : Option HeldResult → Nat
  | some h => if h.mode = .pooled ∧ h.demand < h.supply then 1023 * (h.supply - h.demand) / h.supply else 0
  | none => 0

/-- The SHT level a held result gives (R152). -/
def shtOf : Option HeldResult → Bool
  | some h => h.role = .buyer && 0 < h.unmatched
  | none => false

/-- The LIM level: the balance below the floor, inactive with no floor (R153). -/
def limOf (floor : Option Int) (balance : Int) : Bool :=
  match floor with
  | some f => balance < f
  | none => false

/-- LIM evaluated; held inactive in HOLD-UP (R153, R154), which the operating state says (log 54). -/
def State.evaluateLim (s : State) : State :=
  s.setOutputs { s.outputs with
    lim := s.supervisor.op != .holdUp && limOf s.limitFloor s.account.ledger.figures.balance }

/-! ### The port's response (R198) -/

/-- The response built: its bytes are fixed and the port is RESPONDING. -/
def State.respond (s : State) (kind : Byte) (code : ResponseCode) (contents : List Byte) : State :=
  s.setPort { s.port with
    state := .responding, assembly := [], gap := none, begun := false,
    response := some (envelope kind (code.byte :: contents)) }

/-- Whether the port waits in EXECUTING for another block to end a request of this kind (R197). -/
def State.portAwaits (s : State) (kind : RequestKind) : Bool :=
  s.port.state == .executing && s.port.begun && s.port.held.map (·.kind) == some kind.byte

/-- The response to a request that waited; nothing where the port no longer waits for it. -/
def State.answer (s : State) (kind : RequestKind) (code : ResponseCode) (contents : List Byte) : State :=
  if s.portAwaits kind then s.respond kind.byte code contents else s

/-! ### An event that needs a powered node -/

/-- A command's outcome on a powered node; in power-off every block is stopped and the command finds no occasion
(R184, log 1). -/
def State.whenPowered (s : State) (f : State → State) : Host.Outcome State Fault Refusal :=
  .next (if s.supervisor.powered then f s else s)

end Sys2Proof.Machine
end

