-- ==== Sys2Proof/Machine/Household.lean ====
section
/-! DEFINITION. The account, the settlement queue and the indicator outputs (07): posting, closing, and the commands of the
three household lines. -/

namespace Sys2Proof.Machine

/-! ### Limits of the totals -/

/-- Upper end of a money total (R138). -/
abbrev moneyLimit : Nat := 9223372036854775807

/-- Upper end of an energy total (R138). -/
abbrev energyLimit : Nat := 281474976710655

/-- Records the settlement queue holds at most (R145). -/
abbrev queueSize : Nat := 24

/-! ### Posting (R135 to R138) -/

/-- A record's mode and CUT-SHORT flag counted (R137). -/
def PeriodFigures.counted (p : PeriodFigures) (mode : Mode) (cutShort : Bool) : PeriodFigures :=
  { p with
    pooled := if mode = .pooled then count32 p.pooled else p.pooled
    unpooled := if mode = .unpooled then count32 p.unpooled else p.unpooled
    lone := if mode = .lone then count32 p.lone else p.lone
    cutShort := if cutShort then count32 p.cutShort else p.cutShort }

/-- A CREDIT posted (R135, R138). -/
def PeriodFigures.credit (p : PeriodFigures) (b : PriceBlock) : PeriodFigures :=
  { p with
    balance := min balanceLimit (p.balance + b.amount)
    saturated := p.saturated || decide (balanceLimit < p.balance + b.amount)
      || decide (moneyLimit < p.credits + b.amount)
    credits := satAdd moneyLimit p.credits b.amount
    levy := satAdd moneyLimit p.levy b.levy
    soldPeers := satAdd energyLimit p.soldPeers b.matched
    soldSurplus := satAdd energyLimit p.soldSurplus b.unmatched }

/-- A CHARGE posted (R136, R138). -/
def PeriodFigures.charge (p : PeriodFigures) (b : PriceBlock) : PeriodFigures :=
  { p with
    balance := max (-balanceLimit) (p.balance - b.amount)
    saturated := p.saturated || decide (p.balance - b.amount < -balanceLimit)
      || decide (moneyLimit < p.charges + b.amount)
    charges := satAdd moneyLimit p.charges b.amount
    boughtPeers := satAdd energyLimit p.boughtPeers b.matched
    boughtBackup := satAdd energyLimit p.boughtBackup b.unmatched }

/-- The price block posted by its direction; an IDLE household's record has none (R137). -/
def PeriodFigures.priced (p : PeriodFigures) : Option PriceBlock → PeriodFigures
  | some b => match b.direction with
    | .credit => p.credit b
    | .charge => p.charge b
  | none => p

/-- The period after one record. -/
def PeriodFigures.posted (p : PeriodFigures) (x : SettlementRecord) : PeriodFigures :=
  (p.priced x.price).counted x.mode x.cutShort

/-- A record enters the queue; a full queue loses its oldest record, counted (R145). -/
def SettlementQueue.enter (q : SettlementQueue) (x : SettlementRecord) : SettlementQueue :=
  if q.records.length < queueSize then { q with records := q.records ++ [x] }
  else { records := q.records.drop 1 ++ [x], lost := count16 q.lost }

/-- Posting, the record's entry into the queue and the evaluation of LIM, one event (R137). -/
def State.post (x : SettlementRecord) (s : State) : State :=
  let p := s.account.ledger.figures.posted x
  let s := s.setAccount { s.account with ledger := { s.account.ledger with figures := p } }
  (s.setQueue (s.queue.enter { x with balance := p.balance })).evaluateLim

/-! ### Closing a period (R139) -/

/-- The account after a close: the summary frozen and a new period opened. -/
def Ledger.closed (a : Ledger) (last : Option Nat) (lost opening : Nat) : Ledger :=
  { figures := .zero
    period := (a.period + 1) % 4294967296
    opening := opening
    summary := some { period := a.period, opening := a.opening, closing := last, figures := a.figures, lost := lost } }

/-- The interval after the last reckoned interval, 0 if there is none (R139). -/
def nextOpening : Option Nat → Nat
  | some k => k + 1
  | none => 0

/-- The close at the account and the queue, and LIM evaluated (R139, R148, R153). -/
def State.closeAccount (s : State) : State :=
  let n := nextOpening s.reckoning.last
  let a := s.account.ledger.closed s.reckoning.last s.queue.lost (s.storedInterval n)
  (((s.spentInterval n).setAccount { s.account with ledger := a }).setQueue { s.queue with lost := 0 }).evaluateLim

/-! ### The indicator outputs -/

/-- A reckoning's results taken: the duty and SHT set, unless in HOLD-UP (R149), which the operating state says (log 54). -/
def State.takeResult (x : HeldResult) (s : State) : State :=
  if s.supervisor.op = .holdUp then s.setOutputs { s.outputs with held := some x }
  else s.setOutputs { s.outputs with held := some x, duty := dutyOf (some x), sht := shtOf (some x) }

/-- The latch of a frame start (R151). -/
def Outputs.latch (o : Outputs) : Outputs :=
  { o with base := o.duty / 4, extension := o.duty % 4, frameStartDue := false }

/-- SUR_FRAME_START: at a frame start the base and the extension are latched from the duty in force (R151, log 25). -/
def execSurFrameStart (s : State) : Host.Outcome State Fault Refusal :=
  s.whenPowered fun s => if s.outputs.frameStartDue then s.setOutputs s.outputs.latch else s

/-- Whether SUR is high at a step of a period (R151). -/
def Outputs.high (o : Outputs) : Bool :=
  decide (o.step < o.base) || (decide (o.step = o.base) && decide (o.period < o.extension))

/-- One crystal cycle: SUR driven for this step, then the position advanced; a frame whose latch is outstanding latches
first (R151, log 25). -/
def Outputs.advance (o : Outputs) : Outputs :=
  let o := if o.frameStartDue then o.latch else o
  let o := { o with sur := o.high }
  if o.step < 255 then { o with step := o.step + 1 }
  else if o.period < 3 then { o with step := 0, period := o.period + 1 }
  else { o with step := 0, period := 0, frameStartDue := true }

/-- SUR_GENERATOR_STEP: one step of the generator (R151). -/
def execSurGeneratorStep (s : State) : Host.Outcome State Fault Refusal :=
  s.whenPowered fun s => s.setOutputs s.outputs.advance

/-- START_END_LIM: at the end of START into RUN, LIM is evaluated against the restored balance (R153, R155). -/
def execStartEndLim (s : State) : Host.Outcome State Fault Refusal :=
  s.whenPowered fun s =>
    if s.outputs.limDue then (s.setOutputs { s.outputs with limDue := false }).evaluateLim else s

/-- LIM_CONFIGURATION_WRITE: at a completed configuration write, LIM is evaluated against the new floor (R153). -/
def execLimConfigurationWrite (s : State) : Host.Outcome State Fault Refusal :=
  s.whenPowered fun s =>
    if s.completionDue s.outputs.epoch then
      (s.setOutputs { s.outputs with epoch := s.store.completions }).evaluateLim
    else s

/-- The lines at rest: duty 0, SUR low, a new frame, SHT and LIM inactive (R154). -/
def Outputs.rest (o : Outputs) : Outputs :=
  { o with duty := 0, sur := false, period := 0, step := 0, base := 0, extension := 0, frameStartDue := true,
           sht := false, lim := false }

/-- OUTPUTS_HOLD_UP_ENTRY: the lines go to rest; the held result is kept (R154). -/
def execOutputsHoldUpEntry (s : State) : Host.Outcome State Fault Refusal :=
  s.whenPowered fun s =>
    match s.outputs.power with
    | .entry :: rest => s.setOutputs { s.outputs.rest with power := rest }
    | .exit :: _ => s
    | [] => s

/-- OUTPUTS_HOLD_UP_EXIT: the duty and SHT set from the held result, LIM from the balance (R154). Where the node has
entered HOLD-UP again before this take, the duty and SHT are set all the same and LIM stays inactive, until the entry that
waits behind the exit is taken (log 54). -/
def execOutputsHoldUpExit (s : State) : Host.Outcome State Fault Refusal :=
  s.whenPowered fun s =>
    match s.outputs.power with
    | .exit :: rest =>
      (s.setOutputs { s.outputs with
        power := rest, duty := dutyOf s.outputs.held, sht := shtOf s.outputs.held }).evaluateLim
    | .entry :: _ => s
    | [] => s

end Sys2Proof.Machine
end

