-- ==== Sys2Proof/Machine/Reset.lean ====
section
/-! DEFINITION. The node reset, power-off and the parity fault (09), which other commands end in. -/

namespace Sys2Proof.Machine

/-! ### The start read of the configuration sector (R159) -/

/-- The lock place's class as the start read finds it. -/
def NvArray.lockClass (a : NvArray) : LockClass := a.lock.lockClass (a.config.working.map (·.check))

/-- The commissioning state the start read decides. -/
def NvArray.commissioning (a : NvArray) : Commissioning :=
  if a.lockClass = .marked then .locked else if a.config.working.isSome then .commissioned else .fresh

/-- The condition the start read decides. -/
def NvArray.condition (a : NvArray) : Condition :=
  if a.lockClass = .marked && a.config.working.isNone then .defective else .good

/-- The store after a node reset: its reset state, with the configuration sector read; what the slots decide waits for the
selection event (R176, log 16, log 17). -/
def Store.restarted (a : NvArray) : Store :=
  { Store.initial with
    commissioning := a.commissioning, condition := a.condition, lock := a.lockClass, working := a.config.working,
    array := a }

/-! ### The node reset (R179) -/

/-- The cause record after a node reset (R189). -/
def CauseRecord.after (r : CauseRecord) : ResetKind → CauseRecord
  | .power => ⟨some .power, 0, 0, false⟩
  | .requested => { r with last := some .requested, requested := count16 r.requested }
  | .parity => { r with last := some .parity, parity := count16 r.parity }

/-- The length code the clock takes at a reset: the configuration record's, 2 with none (R19, R33). -/
def Store.lengthCode (t : Store) : Nat := (t.working.map (·.record.lengthCode)).getD 2

/-- A node reset takes effect: every block in its reset state, START entered. Only the array, the lines' levels and the
cause record come through it. -/
def State.nodeReset (kind : ResetKind) (s : State) : State :=
  let t := Store.restarted s.store.array
  { pins := s.pins
    meter := .initial
    clock := { Clock.initial with lengthCode := t.lengthCode, r := intervalLength t.lengthCode }
    link := { Link.initial with breakTimer := if s.pins.rxd then none else some 50 }
    peers := .initial
    reckoning := { Reckoning.initial with inForce := t.working.map (·.record) }
    supply := { Supply.initial with openRecord := ⟨0, 0, s.pins.isl, 0⟩ }
    account := .initial
    queue := .initial
    outputs := .initial
    store := t
    supervisor := { Supervisor.initial with
      mains := if s.pins.mns then .present else .lost, cause := s.supervisor.cause.after kind }
    port := .initial
    freeCount := s.freeCount
    pending := s.pending }

/-- A pending reset takes effect once no operation is in flight: PARITY at once, REQUESTED when its response has been
sent (R186, R188). -/
def State.settleReset (s : State) : State :=
  if s.store.op.isSome then s else
    match s.supervisor.resetPending with
    | .parity => s.nodeReset .parity
    | .requested => if s.supervisor.armed then s.nodeReset .requested else s
    | .none => s

/-! ### The parity fault (R188) -/

/-- A parity fault reported: a PARITY reset is pending and takes effect at once, or at the completion of the operation
in flight. -/
def State.parityFault (s : State) : State :=
  (s.setSupervisor { s.supervisor with resetPending := .parity, finalAwaited := false }).settleReset

/-- What an operation that reads guarded values comes to: done, or ended where a parity check failed. -/
inductive Guarded
  | done (s : State)
  | failed (s : State)

/-- The next part of an operation, made only if the parts before it were (log 48). -/
def Guarded.andThen (g : Guarded) (f : State → Guarded) : Guarded :=
  match g with
  | .done s => f s
  | .failed s => .failed s

/-- The operation's end: a failed check is reported to the supervisor. -/
def Guarded.run : Guarded → State
  | .done s => s
  | .failed s => s.parityFault

/-- A part of an operation behind a parity flag. -/
def State.guarded (ok : Bool) (f : State → State) (s : State) : State := if ok then f s else s.parityFault

/-! ### Power-off (R184, R172) -/

/-- What a place holds after a program into it that was cut short: blank if nothing was programmed yet, else
damaged. -/
def Place.cut (p : Place) (touched : Bool) : Place := if p.isBlank && !touched then .erased else .damaged

/-- One place after an erase that failed or was cut short. -/
def Place.remnant (p : Place) : Remnant → Place
  | .kept => p
  | .erased => .erased
  | .damaged => .damaged

/-- A sector's places after an erase that failed or was cut short. -/
def eraseRemnants (free sector : Nat) (slots : List Place) : List Place :=
  slots.mapIdx fun i p => if i / 16 = sector then p.remnant (Config.eraseRemnant free i) else p

/-- The configuration sector after an erase of it that failed or was cut short: no record that passes and no marker
(R162). -/
def NvArray.configRemnant (a : NvArray) (recordLeft lockLeft : Bool) : NvArray :=
  { a with config := if recordLeft then .damaged else .erased, lock := if lockLeft then .damaged else .erased }

/-- The array after power is lost with this operation in flight. -/
def NvArray.powerLost (a : NvArray) (free : Nat) : Option Operation → NvArray
  | none => a
  | some (.eraseConfig _ _) => a.configRemnant (Config.placeTouched free) (Config.placeTouched (free + 1))
  | some (.programConfig _) => { a with config := a.config.cut (Config.placeTouched free) }
  | some (.programLock _) => { a with lock := a.lock.cut (Config.placeTouched free) }
  | some (.eraseSector k _ _) => { a with slots := eraseRemnants free k a.slots }
  | some (.programSlot n _ _ _) =>
    { a with slots := a.slots.modify n fun p => p.cut (Config.placeTouched free) }

/-- Power-off: every block stopped and its volatile state lost (log 19); the array keeps what it holds. -/
def State.powerOff (s : State) : State :=
  { pins := s.pins
    meter := .initial
    clock := .initial
    link := .initial
    peers := .initial
    reckoning := .initial
    supply := .initial
    account := .initial
    queue := .initial
    outputs := .initial
    store := { Store.initial with array := s.store.array.powerLost s.freeCount s.store.op }
    supervisor := { Supervisor.initial with powered := false }
    port := .initial
    freeCount := s.freeCount + 2
    pending := s.pending }

end Sys2Proof.Machine
end

