-- ==== Sys2Proof/Machine/Checkpoints.lean ====
section
/-! DEFINITION. The checkpoint store (08): requests, the record's build, the operations' completions and the selection
event. -/

namespace Sys2Proof.Machine

/-! ### Slots and sectors (R157, R167) -/

/-- Slots of the ring, and of one sector. -/
abbrev slotCount : Nat := 32
abbrev sectorSize : Nat := 16

/-- The slot after a slot in ring order. -/
def nextSlot (n : Nat) : Nat := (n + 1) % slotCount

/-- Whether a slot is the first of a sector. -/
def sectorFirst (n : Nat) : Bool := n % sectorSize == 0

/-- The place of a slot. -/
def NvArray.slot (a : NvArray) (n : Nat) : Place := a.slots.getD n .erased

/-- The array with one slot's place replaced. -/
def NvArray.setSlot (a : NvArray) (n : Nat) (p : Place) : NvArray := { a with slots := a.slots.set n p }

/-- Whether every slot of a sector is blank. -/
def NvArray.sectorBlank (a : NvArray) (k : Nat) : Bool :=
  ((a.slots.drop (k * sectorSize)).take sectorSize).all Place.isBlank

/-- The array with a sector erased. -/
def NvArray.eraseSector (a : NvArray) (k : Nat) : NvArray :=
  { a with slots := a.slots.mapIdx fun i p => if i / sectorSize = k then .erased else p }

/-- Whether slot `n` needs its sector erased before it is programmed (R167). -/
def NvArray.eraseNeeded (a : NvArray) (n : Nat) : Bool := sectorFirst n && !a.sectorBlank (n / sectorSize)

/-- The check value that tags checkpoints: the working configuration's, the lock place's with none, none in FRESH
(R160). -/
def Store.tag (t : Store) : Option Word16 :=
  match t.working with
  | some w => some w.check
  | none =>
    match t.commissioning with
    | .locked => t.array.lock.lockCheck
    | .fresh => none
    | .commissioned => none

/-! ### The record's build (R166) -/

/-- Whether every value the build reads passes its parity check (R6, R112, R142). The START accumulators are read outside
START too, where they hold 0 and are no part of the record, so that a failed parity of one stops that build (log 51). -/
def State.buildOk (s : State) : Bool := s.meter.countersOk && s.reckoning.lastParity && s.account.parity

/-- The record of the state as it stands: the counters with the START accumulators (R13), c, the last reckoned interval
and the account. -/
def State.checkpoint (s : State) : Checkpoint :=
  { seq := s.store.nextSeq
    tag := s.store.tag.getD 0
    cumExport := s.meter.exp.counter + s.meter.exp.accumulator
    cumImport := s.meter.imp.counter + s.meter.imp.accumulator
    c := s.clock.c
    last := s.reckoning.last
    ledger := s.account.ledger }

/-- The build, and the program of the slot at the write pointer begun; a parity fault programs nothing (R166, R173). -/
def State.buildAndProgram (s : State) : State :=
  if s.buildOk then
    s.setStore { s.store with
      pending := false, op := some (.programSlot s.store.pointer s.checkpoint.bytes 1 s.store.finalOwed) }
  else (s.setStore { s.store with op := none, pending := false, finalOwed := false }).parityFault

/-- A checkpoint operation begun at the write pointer, with an erase first where one is needed (R167). -/
def State.beginCheckpoint (s : State) : State :=
  if s.store.array.eraseNeeded s.store.pointer then
    s.setStore { s.store with op := some (.eraseSector (s.store.pointer / sectorSize) 1 none) }
  else s.buildAndProgram

/-! ### Requests (R164, R165) -/

/-- Whether a request may be served: not while a reset is pending, but for a final checkpoint not yet built
(R172, R187). -/
def State.mayServe (s : State) : Bool :=
  match s.supervisor.resetPending with
  | .none => true
  | .requested => s.store.finalOwed
  | .parity => false

/-- The pending request set, or merged with the one that is. -/
def Store.pend (t : Store) : Store :=
  if t.pending then { t with counters := { t.counters with merged := count16 t.counters.merged } }
  else { t with pending := true }

/-- A checkpoint request taken: discarded in FRESH, refused in FAILED, an operation begun in IDLE, else pending. FRESH
decides before FAILED (log 22). -/
def State.request (s : State) : State :=
  if s.store.commissioning = .fresh then s
  else if s.store.failed then
    s.setStore { s.store with counters := { s.store.counters with refused := count16 s.store.counters.refused } }
  else if s.store.op.isNone && s.mayServe then s.beginCheckpoint
  else s.setStore s.store.pend

/-! ### The final checkpoint (R173, R186) -/

/-- The store's report: the outcome held and the port's answer made, if the report is still awaited. -/
def State.finalReport (o : FinalOutcome) (s : State) : State :=
  let s := s.setStore { s.store with finalOwed := false }
  if s.supervisor.finalAwaited then
    (s.setSupervisor { s.supervisor with finalAwaited := false, outcome := some o }).answer .restartNode .ok
      [byteOf o.code]
  else s

/-- The final request: not written at once in FRESH and FAILED, else a checkpoint request with its report owed. -/
def State.finalRequest (s : State) : State :=
  if s.store.commissioning = .fresh then s.finalReport .notWritten
  else if s.store.failed then s.request.finalReport .notWritten
  else (s.setStore { s.store with finalOwed := true }).request

/-! ### The end of an operation (R165, R171) -/

/-- FAILED entered: the pending request is discarded and an owed report is "not written". -/
def State.enterFailed (s : State) : State :=
  let s := s.setStore { s.store with op := none, failed := true, pending := false }
  (if s.store.finalOwed then s.finalReport .notWritten else s).settleReset

/-- The completion of an operation that leaves the store free: the pending request is served in the same event, or the
store is IDLE and a pending reset takes effect. -/
def State.afterOperation (s : State) : State :=
  let s := s.setStore { s.store with op := none }
  if s.store.pending && s.store.commissioning != .fresh && s.mayServe then s.beginCheckpoint else s.settleReset

/-- One erase failure counted (R170). -/
def StoreCounters.eraseFailed (x : StoreCounters) : StoreCounters := { x with eraseFailures := count16 x.eraseFailures }

/-- One program failure counted (R169). -/
def StoreCounters.programFailed (x : StoreCounters) : StoreCounters :=
  { x with programFailures := count16 x.programFailures }

/-! ### Commands -/

/-- CHECKPOINT_REQUEST: the store takes the oldest request that waits for it: a boundary's, a jump's or HOLD-UP entry's
(R164). -/
def execCheckpointRequest (s : State) : Host.Outcome State Fault Refusal :=
  s.whenPowered fun s =>
    match s.store.inbox with
    | _ :: rest => (s.setStore { s.store with inbox := rest }).request
    | [] => s

/-- The configuration sector's erase completed. After a failed one the sector holds a free mixture without a record that
passes and not wholly blank (log 14); the lock place's class, an item of the store, stays as it was (R161, R162,
log 43). -/
def State.configErased (body : List Byte) (attempt : Nat) (verified : Bool) (s : State) : State :=
  if verified then
    s.setStore { s.store with
      op := some (.programConfig body), array := { s.store.array with config := .erased, lock := .erased } }
  else
    let recordLeft := s.draw
    let lockLeft := recordLeft.2.draw
    let s := lockLeft.2.setStore { s.store with
      array := s.store.array.configRemnant (recordLeft.1 || !lockLeft.1) lockLeft.1
      counters := s.store.counters.eraseFailed }
    if attempt < 2 then s.setStore { s.store with op := some (.eraseConfig body 2) }
    else (s.answer .commission .storeFailed []).enterFailed

/-- The places a failed erase of a sector leaves: a free mixture, not all of them blank (R170). -/
def NvArray.eraseFailed (a : NvArray) (free k : Nat) : NvArray :=
  let b := { a with slots := eraseRemnants free k a.slots }
  if b.sectorBlank k then b.setSlot (k * sectorSize) .damaged else b

/-- A checkpoint sector's erase completed (R167, R169, R170). -/
def State.sectorErased (k attempt : Nat) (record : Option (List Byte × Bool)) (verified : Bool) (s : State) : State :=
  if verified then
    let s := s.setStore { s.store with array := s.store.array.eraseSector k }
    match record with
    | some (bytes, final) => s.setStore { s.store with op := some (.programSlot s.store.pointer bytes 2 final) }
    | none =>
      if s.supervisor.resetPending = .parity then (s.setStore { s.store with op := none }).settleReset
      else s.buildAndProgram
  else
    let s := (s.setFree (s.freeCount + 1)).setStore { s.store with
      array := s.store.array.eraseFailed s.freeCount k, counters := s.store.counters.eraseFailed }
    if attempt < 2 then s.setStore { s.store with op := some (.eraseSector k 2 record) } else s.enterFailed

/-- ERASE_COMPLETE: an erase completes its verify; the operand is the verify's outcome (log 11). -/
def execEraseComplete (verified : Bool) (s : State) : Host.Outcome State Fault Refusal :=
  s.whenPowered fun s =>
    match s.store.op with
    | some (.eraseConfig body attempt) => s.configErased body attempt verified
    | some (.eraseSector k attempt record) => s.sectorErased k attempt record verified
    | some (.programConfig _) => s
    | some (.programLock _) => s
    | some (.programSlot _ _ _ _) => s
    | none => s

/-- A slot program that verified: the newest valid slot, the sequence number and the pointer move on; the last sequence
number ends in FAILED (R168, log 37). -/
def State.slotWritten (slot : Nat) (bytes : List Byte) (final : Bool) (s : State) : State :=
  let seq := s.store.nextSeq
  let s := s.setStore { s.store with
    op := none
    array := s.store.array.setSlot slot (.written bytes)
    newest := some ⟨slot, checkpointSeq bytes⟩
    pointer := nextSlot s.store.pointer
    nextSeq := if seq < max32 then seq + 1 else seq
    counters := { s.store.counters with written := count16 s.store.counters.written } }
  let s := if final && s.store.finalOwed then s.finalReport .written else s
  if seq < max32 then s.afterOperation else s.enterFailed

/-- A slot program that failed: attempt 2 in the next slot, or FAILED (R169). -/
def State.slotFailed (slot : Nat) (bytes : List Byte) (attempt : Nat) (final : Bool) (s : State) : State :=
  let n := nextSlot s.store.pointer
  let s := s.setStore { s.store with
    array := s.store.array.setSlot slot .damaged, pointer := n, counters := s.store.counters.programFailed }
  if attempt < 2 then
    if s.store.array.eraseNeeded n then
      s.setStore { s.store with op := some (.eraseSector (n / sectorSize) 1 (some (bytes, final))) }
    else s.setStore { s.store with op := some (.programSlot n bytes 2 final) }
  else s.enterFailed

/-- SLOT_PROGRAM_COMPLETE: a slot's program completes its verify; into a slot that was not blank it fails whatever the
operand says (R168, log 11). -/
def execSlotProgramComplete (verified : Bool) (s : State) : Host.Outcome State Fault Refusal :=
  s.whenPowered fun s =>
    match s.store.op with
    | some (.programSlot slot bytes attempt final) =>
      if verified && (s.store.array.slot slot).isBlank then s.slotWritten slot bytes final
      else s.slotFailed slot bytes attempt final
    | some (.eraseConfig _ _) => s
    | some (.eraseSector _ _ _) => s
    | some (.programConfig _) => s
    | some (.programLock _) => s
    | none => s

/-- The working configuration a COMMISSION body makes. -/
def workingOf (body : List Byte) : Working := { record := .ofBytes body, check := crc16 body }

/-- The configuration record's place programmed, and the node commissioned (R161). -/
def State.configured (body : List Byte) (s : State) : State :=
  s.setStore { s.store with
    op := none
    array := { s.store.array with config := .written (configurationRecord body) }
    working := some (workingOf body), commissioning := .commissioned, condition := .good, lock := .blank }

/-- Whether the pending reset takes effect at the completion of the operation in flight (R172). -/
def State.resetDue (s : State) : Bool :=
  s.supervisor.resetPending = .parity || (s.supervisor.resetPending = .requested && s.supervisor.armed)

/-- CONFIGURATION_WRITE_COMPLETE: the record's program completes its verify: the completion of a configuration write, or
its failure, which leaves the lock place's class as it was (R161, R162, R172, log 43). -/
def execConfigurationWriteComplete (verified : Bool) (s : State) : Host.Outcome State Fault Refusal :=
  s.whenPowered fun s =>
    match s.store.op with
    | some (.programConfig body) =>
      if verified then
        let s := s.configured body
        if s.resetDue then s.settleReset
        else ((s.setStore { s.store with completions := s.store.completions + 1 }).answer .commission .ok
          []).afterOperation
      else
        let left := s.draw
        let s := left.2.setStore { left.2.store with
          array := { left.2.store.array with config := if left.1 then .damaged else .erased }
          counters := left.2.store.counters.programFailed }
        (s.answer .commission .storeFailed []).afterOperation
    | some (.eraseConfig _ _) => s
    | some (.eraseSector _ _ _) => s
    | some (.programLock _) => s
    | some (.programSlot _ _ _ _) => s
    | none => s

/-- LOCK_MARKER_PROGRAM_COMPLETE: the marker's program completes its verify: LOCKED, or the lock place SPOILT (R163). -/
def execLockMarkerProgramComplete (verified : Bool) (s : State) : Host.Outcome State Fault Refusal :=
  s.whenPowered fun s =>
    match s.store.op with
    | some (.programLock v) =>
      if verified then
        ((s.setStore { s.store with
          array := { s.store.array with lock := .written (lockMarker v) }, lock := .marked,
          commissioning := .locked }).answer .lock .ok []).afterOperation
      else
        ((s.setStore { s.store with
          array := { s.store.array with lock := .damaged }, lock := .spoilt,
          counters := s.store.counters.programFailed }).answer .lock .storeFailed []).afterOperation
    | some (.eraseConfig _ _) => s
    | some (.eraseSector _ _ _) => s
    | some (.programConfig _) => s
    | some (.programSlot _ _ _ _) => s
    | none => s

/-! ### The selection event (R174, R175) -/

/-- The later of two slots by sequence number; the first of equals stays. -/
def SlotRef.newer (a : Option SlotRef) (b : SlotRef) : Option SlotRef :=
  match a with
  | none => some b
  | some x => if x.seq < b.seq then some b else some x

/-- The slots whose check agrees, with their bytes (R175, R216). -/
def NvArray.agreeing (a : NvArray) : List (SlotRef × List Byte) :=
  (a.slots.mapIdx fun i p => (p.passing checkpointBytes).map fun bs => (⟨i, checkpointSeq bs⟩, bs)).filterMap id

/-- The slot with the greatest sequence number. -/
def greatestSlot (xs : List (SlotRef × List Byte)) : Option SlotRef := xs.foldl (fun a x => SlotRef.newer a x.1) none

/-- The newest valid checkpoint under a tag; none without one (R157, R174). -/
def NvArray.newestValid (a : NvArray) : Option Word16 → Option SlotRef
  | some tag => greatestSlot (a.agreeing.filter fun x => checkpointTag x.2 == tag)
  | none => none

/-- The contents of a slot's checkpoint. -/
def NvArray.contents (a : NvArray) (x : SlotRef) : Option Checkpoint :=
  match a.slot x.slot with
  | .written bs => some (.ofBytes bs)
  | .erased => none
  | .damaged => none

/-- The pointer's walk: over every slot that is not blank, to the first blank slot or the first slot of a sector
(R175). -/
def NvArray.walk (a : NvArray) : Nat → Nat → Nat
  | 0, n => n
  | fuel + 1, n => if sectorFirst n || (a.slot n).isBlank then n else a.walk fuel (nextSlot n)

/-- Where the walk starts: after the newest valid slot, or the slot of the greatest number, or at slot 0. -/
def walkStart (newest greatest : Option SlotRef) : Nat :=
  match newest, greatest with
  | some x, _ => nextSlot x.slot
  | none, some y => nextSlot y.slot
  | none, none => 0

/-- The next sequence number after the greatest found; a free value beyond the range (log 37). -/
def State.sequenceAfter (s : State) : Option SlotRef → Nat
  | none => 1
  | some x => if x.seq < max32 then x.seq + 1 else (Config.sequenceBeyond s.freeCount).toNat

/-- One channel restored (R14). -/
def MeterChannel.restore (ch : MeterChannel) (v : Word32) : MeterChannel := { ch with counter := v, counterParity := true }

/-- The owners install a checkpoint, or the values without one (R175). -/
def State.install (x : Option Checkpoint) (s : State) : State :=
  let exp := (x.map (·.cumExport)).getD 0
  let imp := (x.map (·.cumImport)).getD 0
  let c := (x.map (·.c)).getD 0
  { s with
    meter := { s.meter with
      exp := s.meter.exp.restore exp, imp := s.meter.imp.restore imp, snapshot := ⟨exp, imp⟩, snapshotParity := true }
    clock := { s.clock with c := c, r := s.clock.length, expiryDue := false }
    peers := { s.peers with tableInterval := c }
    reckoning := { s.reckoning with last := x.bind (·.last), lastParity := true, inForce := s.config }
    account := { ledger := (x.map (·.ledger)).getD Account.initial.ledger, parity := true } }

/-- The end of START as each block has it to take, and HOLD-UP entry with it when the mains is lost (R180). -/
def State.endStart (s : State) : State :=
  let run := decide (s.supervisor.mains = .present)
  let s := { s with
    supervisor := { s.supervisor with op := if run then .run else .holdUp }
    meter := { s.meter with foldDue := true }
    clock := { s.clock with listenDue := true }
    outputs := { s.outputs with limDue := run }
    port := { s.port with heldDue := true } }
  if run then s else s.notifyEntry

/-- The start read's result in the store (R159, R175). -/
def State.startRead (s : State) : State :=
  let t := Store.restarted s.store.array
  let newest := t.array.newestValid t.tag
  let greatest := greatestSlot t.array.agreeing
  let s := s.setStore { s.store with
    commissioning := t.commissioning, condition := t.condition, lock := t.lock, working := t.working
    newest := newest, restored := newest
    nextSeq := s.sequenceAfter greatest
    pointer := t.array.walk slotCount (walkStart newest greatest) }
  (s.setFree (s.freeCount + 1)).install (newest.bind t.array.contents)

/-- SELECTION_EVENT: the start read completes, the newest valid checkpoint is installed and START ends (R174, R175,
R180). -/
def execSelectionEvent (s : State) : Host.Outcome State Fault Refusal :=
  s.whenPowered fun s => if s.supervisor.op = .start then s.startRead.endStart else s

end Sys2Proof.Machine
end

