-- ==== Sys2Proof/Machine/Reckon.lean ====
section
/-! DEFINITION. The reckoning unit (05): pending reckonings, the computation of a settlement record, and the unit's
commands. -/

namespace Sys2Proof.Machine

/-! ### Participants and totals (R95, R100) -/

/-- The net of a participant. -/
def netOf (exportWh importWh : Nat) : Int := (exportWh : Int) - importWh

/-- The nets of the participants: the node itself, then the counted peers. -/
def netsOf (own : OwnRecord) (list : ParticipantList) : List Int :=
  netOf own.exportWh own.importWh :: list.counted.map fun p => netOf p.exportWh p.importWh

/-- The village supply S. -/
def supplyTotal (nets : List Int) : Nat := (nets.map Int.toNat).sum

/-- The village demand D. -/
def demandTotal (nets : List Int) : Nat := (nets.map fun n => (-n).toNat).sum

/-- The mode from C, X and the quorum Q (R96). -/
def modeOf (c x q : Nat) : Mode := if c = 1 then .lone else if c * 100 < q * x then .unpooled else .pooled

/-- The role of a net (R101). -/
def roleOf (net : Int) : Role := if 0 < net then .seller else if net < 0 then .buyer else .idle

/-- The matched energy of a household with `own` on a side whose total is `side` (R102, R103). -/
def matchedOf (mode : Mode) (matched own side : Nat) : Nat := if mode = .pooled then matched * own / side else 0

/-! ### Supply state (R97, R98) -/

/-- The state a counted slot carries as a report: DIRECT, present and not held by its sender (R62). -/
def CountedPeer.reported (p : CountedPeer) : Option SupplyState :=
  if p.status = .direct && !p.senderHeld then p.supply else none

/-- The most severe of the reported states. -/
def mostSevere (xs : List SupplyState) : Option SupplyState :=
  xs.foldl (fun a x => some (match a with | some y => y.severer x | none => x)) none

/-- The resolved state and its source; an answer of none held is GRID and HELD. -/
def resolveSupply (answer : Option SupplyRecord) (counted : List CountedPeer) : SupplyState × SupplySource :=
  let held := (answer.map (·.state)).getD .grid
  if (answer.map (·.source)).getD .held = .own then (held, .own)
  else match mostSevere (counted.filterMap CountedPeer.reported) with
    | some x => (x, .peer)
    | none => (held, .held)

/-- The backup price's place among a band's five prices. -/
def backupIndex (x : SupplyState) : Nat := 2 + x.code

/-! ### The price block (R105 to R107) -/

/-- What pricing reads from the configuration the reckoning is made under (R99). -/
structure Prices where
  peer : Nat
  surplus : Nat
  backup : Nat
  levy : Nat
  deriving DecidableEq, Repr

/-- The peer credit (R105). -/
def peerCredit (m price levy : Nat) : Nat := m * price * (1000 - levy) / 1000

/-- The price block of a SELLER with matched energy m and unmatched energy u. -/
def sellerBlock (p : Prices) (m u : Nat) : PriceBlock :=
  { matched := m, unmatched := u, peerPrice := p.peer, secondPrice := p.surplus
    amount := peerCredit m p.peer p.levy + u * p.surplus, direction := .credit
    levy := m * p.peer - peerCredit m p.peer p.levy }

/-- The price block of a BUYER. -/
def buyerBlock (p : Prices) (m u : Nat) : PriceBlock :=
  { matched := m, unmatched := u, peerPrice := p.peer, secondPrice := p.backup
    amount := m * p.peer + u * p.backup, direction := .charge, levy := 0 }

/-- The price block of a household with this net, none for an IDLE one. -/
def priceBlock (p : Prices) (mode : Mode) (net : Int) (supply demand : Nat) : Option PriceBlock :=
  match roleOf net with
  | .seller =>
    let m := matchedOf mode (min supply demand) net.toNat supply
    some (sellerBlock p m (net.toNat - m))
  | .buyer =>
    let m := matchedOf mode (min supply demand) (-net).toNat demand
    some (buyerBlock p m ((-net).toNat - m))
  | .idle => none

/-! ### The settlement record (R108) -/

/-- The record of a reckoning of interval `j` made with an own figure; the balance is the account's to fill. -/
def State.settlement (s : State) (j : Nat) (kind : ReckoningKind) (own : OwnRecord) (answer : Option SupplyRecord)
    (list : ParticipantList) : SettlementRecord :=
  let c := 1 + list.counted.length
  let x := 1 + list.expected
  let mode := modeOf c x s.quorum
  let nets := netsOf own list
  let supply := supplyTotal nets
  let demand := demandTotal nets
  let net := netOf own.exportWh own.importWh
  let resolved := resolveSupply answer list.counted
  let band := s.band (hourOfDay s.reckonedCode j)
  let prices : Prices :=
    ⟨s.price band 0, s.price band 1, s.price band (backupIndex resolved.1), s.levy⟩
  { interval := j, band := band, supplyState := resolved.1, source := resolved.2, mode := mode
    cutShort := kind = .cutShort, ownExport := own.exportWh, ownImport := own.importWh, saturated := own.saturated
    role := roleOf net
    village := if mode = .lone then none else some ⟨c, x, supply, demand⟩
    price := priceBlock prices mode net supply demand
    balance := 0 }

/-- The results handed to the indicator outputs (R109, R149). R149 hands no u for an IDLE household, and the held result
has 0 there, which nothing reads (log 49). -/
def resultOf (x : SettlementRecord) (own : OwnRecord) (list : ParticipantList) : HeldResult :=
  { mode := x.mode, supply := supplyTotal (netsOf own list), demand := demandTotal (netsOf own list), role := x.role
    unmatched := (x.price.map (·.unmatched)).getD 0 }

/-- A reckoning made with an own figure: its results to the outputs, its record posted; a failed parity check of the
account loses the record (R109, R142, log 30). -/
def State.settle (j : Nat) (kind : ReckoningKind) (own : OwnRecord) (answer : Option SupplyRecord)
    (list : ParticipantList) (s : State) : Guarded :=
  let x := s.settlement j kind own answer list
  let s := s.takeResult (resultOf x own list)
  if s.account.parity then .done (s.post x) else .failed s

/-! ### Pending reckonings (R91, R93) -/

/-- One of the four inputs of a reckoning. -/
inductive ReckoningInput
  | instruction (kind : ReckoningKind)
  | own (answer : Option OwnRecord)
  | supply (answer : Option SupplyRecord)
  | list (list : ParticipantList)
  deriving DecidableEq, Repr

/-- Whether a pending reckoning still awaits an input of this form. -/
def PendingReckoning.awaits (p : PendingReckoning) : ReckoningInput → Bool
  | .instruction _ => p.kind.isNone
  | .own _ => p.own.isNone
  | .supply _ => p.supply.isNone
  | .list _ => p.list.isNone

/-- The pending reckoning with an input. -/
def PendingReckoning.take (p : PendingReckoning) : ReckoningInput → PendingReckoning
  | .instruction k => { p with kind := some k }
  | .own a => { p with own := some a }
  | .supply a => { p with supply := some a }
  | .list l => { p with list := some l }

/-- A pending reckoning just opened for `j` by an input of the notification at `order`. -/
def PendingReckoning.opened (order j : Nat) : PendingReckoning :=
  { interval := j, order := order, kind := none, own := none, supply := none, list := none }

/-- The earliest-opened pending reckoning of `j` that awaits the input takes it; none if there is no such one. -/
def fillPending (j : Nat) (i : ReckoningInput) : List PendingReckoning → Option (List PendingReckoning)
  | [] => none
  | p :: ps => if p.interval = j ∧ p.awaits i then some (p.take i :: ps) else (fillPending j i ps).map (p :: ·)

/-- The place of a boundary that ends k, and of a jump out of `oldC`, in the order in which the clock issues its
notifications: a jump leaves interval c before a boundary ends it (R17, R30, log 45). -/
abbrev boundaryOrder (k : Nat) : Nat := 2 * k + 1
abbrev jumpOrder (oldC : Nat) : Nat := 2 * oldC

/-- A pending reckoning put in its place: after those of its own notification and of earlier ones (R91). -/
def insertPending (p : PendingReckoning) : List PendingReckoning → List PendingReckoning
  | [] => [p]
  | q :: qs => if q.order ≤ p.order then q :: insertPending p qs else p :: q :: qs

/-- Whether an interval is at or below the last reckoned interval. -/
def closedTo (last : Option Nat) (j : Nat) : Bool := match last with | some k => decide (j ≤ k) | none => false

/-- A repeat counted (R91, R93). -/
def Reckoning.repeated (u : Reckoning) : Reckoning := { u with repeats := count16 u.repeats }

/-- The last reckoned interval moved to `j` (R93). -/
def Reckoning.reached (u : Reckoning) (j : Nat) : Reckoning := { u with last := some j, lastParity := true }

/-- A reckoning with all its inputs made: dropped at or below the last reckoned interval (R93), without a record where
no own figure is held (R94), else settled (R109). -/
def State.reckon (j : Nat) (kind : ReckoningKind) (own : Option OwnRecord) (answer : Option SupplyRecord)
    (list : ParticipantList) (s : State) : Guarded :=
  if !s.reckoning.lastParity then .failed s
  else if closedTo s.reckoning.last j then .done (s.setReckoning s.reckoning.repeated)
  else
    let s := s.setReckoning (s.reckoning.reached j)
    match own with
    | none => .done (s.setReckoning { s.reckoning with noFigure := count16 s.reckoning.noFigure })
    | some x => s.settle j kind x answer list

/-- The reckonings at the front that have all their inputs, made in order (R93). One that is due has left `pending` when the
parity of the last reckoned interval is checked, also where that check fails (log 47). A failed check, that one or the
account's at the posting, ends the event: the next one stays pending (log 48). -/
def State.makeReady : Nat → State → Guarded
  | 0, s => .done s
  | fuel + 1, s =>
    match s.reckoning.pending with
    | ⟨j, _, some kind, some own, some answer, some list⟩ :: rest =>
      ((s.setReckoning { s.reckoning with pending := rest }).reckon j kind own answer list).andThen
        (State.makeReady fuel)
    | _ => .done s

/-- An input discarded: an instruction counts a repeat (R91). -/
def Reckoning.discard (u : Reckoning) : ReckoningInput → Reckoning
  | .instruction _ => u.repeated
  | .own _ => u
  | .supply _ => u
  | .list _ => u

/-- The state after an input that no pending reckoning awaits: discarded at or below the last reckoned interval, where
an instruction counts a repeat; else a pending reckoning is opened, in the order of the notifications (R91). -/
def State.unmatched (order j : Nat) (i : ReckoningInput) (s : State) : Guarded :=
  if !s.reckoning.lastParity then .failed s
  else if closedTo s.reckoning.last j then .done (s.setReckoning (s.reckoning.discard i))
  else .done (s.setReckoning { s.reckoning with
    pending := insertPending ((PendingReckoning.opened order j).take i) s.reckoning.pending })

/-- An input for interval `j`, of the notification at `order`, reaches the unit (R91), and what it completes is made
(R93). -/
def State.takeInput (order j : Nat) (i : ReckoningInput) (s : State) : Guarded :=
  match fillPending j i s.reckoning.pending with
  | some ps => (s.setReckoning { s.reckoning with pending := ps }).makeReady ps.length
  | none => s.unmatched order j i

/-- Inputs of one notification that reach the unit one after the other; a failed parity check ends the event, and the
inputs after it are lost (log 48). -/
def State.takeInputs (order : Nat) : List (Nat × ReckoningInput) → State → Guarded
  | [], s => .done s
  | (j, i) :: rest, s => (s.takeInput order j i).andThen (State.takeInputs order rest)

/-- The two intervals that a jump from ALIGNED out of `oldC` instructs: old c-2 and old c-1, where they exist (R90). -/
def cutShortIntervals (oldC : Nat) : List Nat :=
  (if 2 ≤ oldC then [oldC - 2] else []) ++ (if 1 ≤ oldC then [oldC - 1] else [])

/-- The instructions of a notification and what comes with them, taken by the unit: as R91 states, or discarded from the
completion of a configuration write on, each instruction counted as a repeat (R111, log 7). A jump out of 0 brings none:
nothing is compared, and no parity checked (R90, R112). -/
def State.takeInstructed (order : Nat) (xs : List (Nat × ReckoningInput)) (s : State) : Guarded :=
  if s.completionDue s.reckoning.epoch then
    if xs.isEmpty || s.reckoning.lastParity then
      .done (s.setReckoning (xs.foldl (fun u x => u.discard x.2) s.reckoning))
    else .failed s
  else s.takeInputs order xs

/-! ### Commands -/

/-- The instruction of a boundary that ends k: k-2, asked for at the meter input block and supply sense, which release
what they hand over (R89, R92, R11, R128). -/
def State.instruct (k : Nat) (s : State) : Guarded :=
  let j := k - 2
  let own := s.meter.recordOf j
  let answer := s.supply.recordOf j
  let s := (s.setMeter (s.meter.release j)).setSupply (s.supply.release j)
  s.takeInstructed (boundaryOrder k) [(j, .instruction .regular), (j, .own own), (j, .supply answer)]

/-- RECKONING_INSTRUCTION: the unit takes a boundary notification (R89). It takes one issued before a completion too, and
the inputs are discarded, as R111 states. -/
def execReckoningInstruction (s : State) : Host.Outcome State Fault Refusal :=
  s.whenPowered fun s =>
    match s.reckoning.inbox with
    | .boundary k _ a e :: rest =>
      if s.reckoning.epoch < e then s
      else
        let s := s.setReckoning { s.reckoning with inbox := rest }
        if a = .aligned ∧ 2 ≤ k then (s.instruct k).run else s
    | .jump _ _ _ _ :: _ => s
    | [] => s

/-- CUT_SHORT_INSTRUCTION: the unit takes a jump notification; from ALIGNED the old c-2 and old c-1 are instructed
(R90). -/
def execCutShortInstruction (s : State) : Host.Outcome State Fault Refusal :=
  s.whenPowered fun s =>
    match s.reckoning.inbox with
    | .jump oldC _ a e :: rest =>
      if s.reckoning.epoch < e then s
      else
        let s := s.setReckoning { s.reckoning with inbox := rest }
        if a = .aligned then
          (s.takeInstructed (jumpOrder oldC) ((cutShortIntervals oldC).map fun j => (j, .instruction .cutShort))).run
        else s
    | .boundary _ _ _ _ :: _ => s
    | [] => s

/-- The last reckoned interval as a completed configuration write leaves it: every interval before c closed (R111). -/
def lastAfterCompletion (c : Nat) (last : Option Nat) : Option Nat :=
  if 1 ≤ c ∧ !closedTo last (c - 1) then some (c - 1) else last

/-- RECKONING_COMMISSIONING: every pending reckoning discarded, the intervals before the new numbering closed, and the
new configuration in force for the reckonings that follow (R111, R99, log 46). -/
def execReckoningCommissioning (s : State) : Host.Outcome State Fault Refusal :=
  s.whenPowered fun s =>
    if s.completionDue s.reckoning.epoch then
      s.setReckoning { s.reckoning with
        pending := [], last := lastAfterCompletion s.completionC s.reckoning.last, inForce := s.config
        epoch := s.store.completions }
    else s

end Sys2Proof.Machine
end

