-- ==== Sys2Proof/Machine/Tallies.lean ====
section
/-! DEFINITION. The meter input block (01): pulses, the boundary cut and the own figure ring; with the copy schedule's
build, which a boundary's own record may be the occasion of (R47). -/

namespace Sys2Proof.Machine

/-! ### Pulses (R1 to R6) -/

/-- The channel of State. -/
def Meter.channel (m : Meter) : Channel → MeterChannel
  | .imp => m.imp
  | .exp => m.exp

/-- The block with a channel replaced. -/
def Meter.setChannel (m : Meter) (x : MeterChannel) : Channel → Meter
  | .imp => { m with imp := x }
  | .exp => { m with exp := x }

/-- A pulse taken by the filter in OPEN: its time captured and HOLD-OFF entered (R2). -/
def MeterChannel.accept (x : MeterChannel) (now : Word32) (spacing : Nat) : MeterChannel :=
  { x with state := .holdOff, lastPulse := some now, expiry := now + BitVec.ofNat 32 spacing }

/-- An accepted pulse counted: into the accumulator in START (R5), else into the counter (R4). -/
def MeterChannel.count (x : MeterChannel) (start : Bool) (weight : Nat) : MeterChannel :=
  if start then { x with accumulator := x.accumulator + BitVec.ofNat 32 weight }
  else { x with counter := x.counter + BitVec.ofNat 32 weight }

/-- The parity flag of the value a pulse is added to (R6). -/
def MeterChannel.addOk (x : MeterChannel) (start : Bool) : Bool := if start then x.accumulatorParity else x.counterParity

/-- PULSE: a leading edge is rejected in HOLD-OFF, or accepted, weighted and counted; a failed parity check leaves it
uncounted (R2 to R6, log 28). -/
def execPulse (ch : Channel) (s : State) : Host.Outcome State Fault Refusal :=
  s.whenPowered fun s =>
    let x := s.meter.channel ch
    let start := decide (s.supervisor.op = .start)
    match x.state with
    | .holdOff => s.setMeter (s.meter.setChannel { x with rejected := count16 x.rejected } ch)
    | .openChannel =>
      let y := x.accept s.meter.timebase s.spacing
      if x.addOk start then s.setMeter (s.meter.setChannel (y.count start (s.weight ch)) ch)
      else (s.setMeter (s.meter.setChannel y ch)).parityFault

/-- HOLD_OFF_EXPIRY: the timebase has reached the captured time plus the spacing, and the channel is OPEN again (R2). -/
def execHoldOffExpiry (ch : Channel) (s : State) : Host.Outcome State Fault Refusal :=
  s.whenPowered fun s =>
    let x := s.meter.channel ch
    if x.state = .holdOff && reached s.meter.timebase x.expiry then
      s.setMeter (s.meter.setChannel { x with state := .openChannel } ch)
    else s

/-- The accumulator added to the counter and set to 0 (R5). -/
def MeterChannel.fold (x : MeterChannel) : MeterChannel := { x with counter := x.counter + x.accumulator, accumulator := 0 }

/-- START_ACCUMULATOR_FOLD: at the end of START, each accumulator joins its restored counter (R5). -/
def execStartAccumulatorFold (s : State) : Host.Outcome State Fault Refusal :=
  s.whenPowered fun s =>
    if s.meter.foldDue then
      s.guarded s.meter.countersOk fun s =>
        s.setMeter { s.meter with imp := s.meter.imp.fold, exp := s.meter.exp.fold, foldDue := false }
    else s

/-! ### The cut and the own figure record (R7, R8) -/

/-- The coherent cut: each counter plus its accumulator (R7). -/
def Meter.cut (m : Meter) : Cut := ⟨m.exp.counter + m.exp.accumulator, m.imp.counter + m.imp.accumulator⟩

/-- A raw figure held at 65,535 (R8). -/
def heldFigure (raw : Word32) : Nat := min max16 raw.toNat

/-- The own figure record of the interval k that a boundary ends (R8). -/
def Meter.ownRecord (m : Meter) (k : Nat) : OwnRecord :=
  let rawExport := m.cut.exp - m.snapshot.exp
  let rawImport := m.cut.imp - m.snapshot.imp
  { interval := k, exportWh := heldFigure rawExport, importWh := heldFigure rawImport
    saturated := decide (max16 < rawExport.toNat) || decide (max16 < rawImport.toNat)
    cumExport := m.cut.exp, cumImport := m.cut.imp, restarted := m.restart }

/-- The cut latched and the record entered in the ring (R7 to R10). -/
def Meter.takeBoundary (m : Meter) (k : Nat) : Meter :=
  { m with ring := enterRing OwnRecord.interval m.ring (m.ownRecord k), snapshot := m.cut }

/-! ### The copy schedule (R47, R48) -/

/-- Sub-span width W. -/
def subSpan (length copies : Nat) : Nat := (8 * length / 10 - 5) / copies

/-- The scrambler h_j. -/
def scramble (id c j : Nat) : Nat := (id * 40503 + c * 2654 + j * 977 + 12345) % 65536

/-- The due offset of copy j. -/
def dueOffset (length copies id c j : Nat) : Nat :=
  5 + j * subSpan length copies + scramble id c j % subSpan length copies

/-- The C due offsets of an announcement made in interval c. -/
def scheduleOf (g : Configuration) (length c : Nat) : List ScheduledCopy :=
  (List.range g.copies).map fun j => ⟨j, dueOffset length g.copies g.nodeId c j⟩

/-- The schedule built for the announcement of k, if the node is in RUN, the transmit side is not SUSPENDED and the
record of k is held; a record with the restarted flag clears the restart condition (R47, R10). The link is handed the
record with the snapshot's parity checked (R6, log 12). The operating state is read as it stands when the schedule is built
(log 58). -/
def State.buildSchedule (k newC : Nat) (s : State) : State :=
  match s.meter.recordOf k, s.config with
  | some x, some g =>
    if s.supervisor.op = .run ∧ s.link.tx ≠ .suspended then
      s.guarded s.meter.snapshotParity fun s =>
        (s.setLink { s.link with
          schedule := scheduleOf g s.clock.length newC, scheduleCount := g.copies, elapsed := 0 }).setMeter
          { s.meter with restart := s.meter.restart && !x.restarted }
    else s
  | _, _ => s

/-- BOUNDARY_SNAPSHOT: the block takes a boundary notification: cut, own figure record, ring; and the schedule that
waited for this record (R7 to R9, R47, log 32). -/
def execBoundarySnapshot (s : State) : Host.Outcome State Fault Refusal :=
  s.whenPowered fun s =>
    match boundaryFront s.store.completions s.meter.epoch s.meter.inbox with
    | .noOccasion => s
    | .discarded rest => s.setMeter { s.meter with inbox := rest }
    | .delivered n rest =>
      (s.setMeter { s.meter with inbox := rest }).guarded s.meter.boundaryOk fun s =>
        let s := s.setMeter (s.meter.takeBoundary n.k)
        if s.link.awaiting = some n.k then (s.setLink { s.link with awaiting := none }).buildSchedule n.k n.newC
        else s

/-- JUMP_RING_HANDOVER: from ALIGNED the records of the old c-2 and old c-1 go to the CUT-SHORT reckonings; the ring is
emptied (R12). -/
def execJumpRingHandover (s : State) : Host.Outcome State Fault Refusal :=
  s.whenPowered fun s =>
    match jumpFront s.store.completions s.meter.epoch s.meter.inbox with
    | .noOccasion => s
    | .discarded rest => s.setMeter { s.meter with inbox := rest }
    | .delivered n rest =>
      let answers := (cutShortIntervals n.oldC).map fun j => (j, ReckoningInput.own (s.meter.recordOf j))
      let s := s.setMeter { s.meter with inbox := rest, ring := [] }
      if n.alignment = .aligned then (s.takeInputs (jumpOrder n.oldC) answers).run else s

/-- COMMISSIONING_CUT: at a completed configuration write the ring is emptied, a new cut latched without a record and the
restart condition set (R13). A pulse accepted between the completion and this event has the new weight and spacing, and
its energy lies inside the cut, in no interval's figure (log 50). -/
def execCommissioningCut (s : State) : Host.Outcome State Fault Refusal :=
  s.whenPowered fun s =>
    if s.completionDue s.meter.epoch then
      s.guarded s.meter.countersOk fun s =>
        s.setMeter { s.meter with
          ring := [], snapshot := s.meter.cut, snapshotParity := true, restart := true, epoch := s.store.completions }
    else s

end Sys2Proof.Machine
end

