-- ==== Sys2Proof/Machine/Numbering.lean ====
section
/-! DEFINITION. The interval clock (02): boundary, advance, jump, alignment input and the clock's commands. -/

namespace Sys2Proof.Machine

/-! ### Boundary and jump (R16, R17, R27, R29, R30) -/

/-- The boundary: c + 1, r as given, the far-ahead set and the candidate cleared, six blocks notified (R16, R17). -/
def State.takeBoundary (r : Nat) (s : State) : State :=
  let k := s.clock.c
  let c := s.storedInterval (k + 1)
  let s := s.spentInterval (k + 1)
  (s.setClock { s.clock with c := c, r := r, farAhead := [], candidate := none }).notify
    (.boundary k c s.clock.alignment s.clock.epoch) .boundary

/-- What a tick does to r when it does not find it at 1: r and the candidate each move by one second (R16). -/
def Clock.count (k : Clock) : Clock :=
  { k with r := k.r - 1, candidate := k.candidate.map fun x => { x with elapsed := x.elapsed + 1 } }

/-- The tick's expiry taken: a boundary if r is still at 1, else r counts down where an advance, a jump or a numbering
came first (R24, R27, log 9). The listen window, which the tick moved, is left as such a numbering set it (log 9). -/
def State.takeExpiry (s : State) : State :=
  let s := s.setClock { s.clock with expiryDue := false }
  if s.clock.r ≤ 1 then s.takeBoundary s.clock.length else s.setClock s.clock.count

/-- BOUNDARY: the remaining count that a tick found at 1 expires (R16, R17). -/
def execBoundary (s : State) : Host.Outcome State Fault Refusal :=
  s.whenPowered fun s => if s.clock.expiryDue then s.takeExpiry else s

/-- The jump to a target: c and r set, set and candidate cleared, counted, six blocks notified with the alignment state
from before (R29, R30). -/
def State.jump (c r : Nat) (s : State) : State :=
  let oldC := s.clock.c
  let newC := s.storedInterval c
  let s := s.spentInterval c
  (s.setClock { s.clock with
    c := newC, r := r, farAhead := [], candidate := none, jumpCount := count16 s.clock.jumpCount
    jumps := s.clock.jumps + 1 }).notify
    (.jump oldC newC s.clock.alignment s.clock.epoch) .jump

/-- Whether a position is ahead of the clock's own (R27, R28). -/
def Clock.behindOf (k : Clock) (c r : Nat) : Bool := decide (k.c < c) || (decide (c = k.c) && decide (r < k.r))

/-- A position carried forward by seconds: L added to the remaining value, and 1 to the number, while it is 0 or less
(R27). -/
def carryForward (length ci ri elapsed : Nat) : Nat × Nat :=
  if elapsed < ri then (ci, ri - elapsed)
  else
    let n := (elapsed - ri) / length + 1
    (ci + n, ri + n * length - elapsed)

/-! ### Alignment input (R22 to R28) -/

/-- What the peer table hands the clock for a frame. -/
structure AlignmentInput where
  sender : Nat
  ci : Nat
  ri : Nat
  stampC : Nat
  stampR : Nat
  preJump : Bool
  deriving DecidableEq, Repr

/-- Whether an input is usable: ri in 1..L and no pre-jump mark (R22). -/
def AlignmentInput.usable (i : AlignmentInput) (length : Nat) : Bool :=
  decide (1 ≤ i.ri) && decide (i.ri ≤ length) && !i.preJump

/-- The phase lead in seconds (R22). -/
def AlignmentInput.lead (i : AlignmentInput) (length : Nat) : Int :=
  ((i.ci : Int) - i.stampC) * length + ((i.stampR : Int) - i.ri)

/-- The verdict on a usable input (R22). -/
def verdictOf (alignment : Alignment) (guardSeconds lead : Int) : Verdict :=
  if lead < -guardSeconds then .behind
  else match alignment with
    | .aligned => if guardSeconds < lead then .far else .inStep
    | .unaligned => .inStep

/-- The guard G; 0 with no configuration, where no input reaches the clock (R22, R66). -/
def State.guardSeconds (s : State) : Nat := (s.config.map (·.guardSeconds)).getD 0

/-- Seconds of an advance for a positive lead (R23). -/
def advanceSeconds (lead : Int) : Nat := min ((lead.toNat + 1) / 2) 4

/-- The advance: r reduced by `a`, and the boundary at once where that leaves 0 or less (R23). -/
def State.advance (a : Nat) (s : State) : State :=
  if a < s.clock.r then s.setClock { s.clock with r := s.clock.r - a }
  else s.takeBoundary (s.clock.length + s.clock.r - a)

/-- The far-ahead set with a sender (R26). -/
def addFarAhead (xs : List Nat) (id : Nat) : List Nat := if id ∈ xs then xs else xs ++ [id]

/-- The set that makes a jump (R27). -/
abbrev jumpQuorum : Nat := 3

/-- The third far-ahead peer: the jump to the target, or the set and the candidate cleared where the target is not
ahead (R27). -/
def State.jumpOrClear (x : Candidate) (s : State) : State :=
  let target := carryForward s.clock.length x.ci x.ri x.elapsed
  if s.clock.behindOf target.1 target.2 then s.jump target.1 target.2
  else s.setClock { s.clock with farAhead := [], candidate := none }

/-- A lead above the guard on an aligned clock (R26, R27). -/
def State.farInput (i : AlignmentInput) (s : State) : State :=
  let x := s.clock.candidate.getD ⟨i.ci, i.ri, 0⟩
  let ids := addFarAhead s.clock.farAhead i.sender
  if i.sender ∉ s.clock.farAhead ∧ jumpQuorum ≤ ids.length then s.jumpOrClear x
  else s.setClock { s.clock with farAhead := ids, candidate := some x }

/-- The clock becomes ALIGNED and the listen window stops (R28). -/
def State.align (s : State) : State := s.setClock { s.clock with alignment := .aligned, window := none }

/-- An unaligned clock on a lead of -G or more: a jump where the frame's position is ahead, and ALIGNED (R28). -/
def State.firstInput (i : AlignmentInput) (lead : Int) (s : State) : State :=
  if 0 < lead ∧ s.clock.behindOf i.ci i.ri then (s.jump i.ci i.ri).align else s.align

/-- What an input the clock judges IN-STEP does. -/
def State.inStepInput (i : AlignmentInput) (lead : Int) (s : State) : State :=
  match s.clock.alignment with
  | .aligned => if 0 < lead then s.advance (advanceSeconds lead) else s
  | .unaligned => s.firstInput i lead

/-- An alignment input at the clock: its verdict, the lead and the state after (R22 to R28). -/
def State.alignmentInput (i : AlignmentInput) (s : State) : Verdict × Int × State :=
  if i.usable s.clock.length then
    let lead := i.lead s.clock.length
    let verdict := verdictOf s.clock.alignment s.guardSeconds lead
    (verdict, lead,
      match verdict with
      | .inStep => s.inStepInput i lead
      | .far => s.farInput i
      | .behind => s
      | .none => s)
  else (.none, 0, s)

/-! ### The tick and the listen window (R16, R21) -/

/-- The link's part in a tick: the schedule elapsed count while the schedule holds an entry (R48). -/
def Link.tick (k : Link) : Link := if k.schedule.isEmpty then k else { k with elapsed := k.elapsed + 1 }

/-- Supply sense's part in a tick: in READY and CONVERTING the period count moves; at P a start event is due and the
count is 0 again (R116, log 29). One that falls due while an earlier one is not yet taken is merged with it (log 57). -/
def Supply.tick (u : Supply) (period : Nat) : Supply :=
  if u.converter = .ready ∨ u.converter = .converting then
    if period ≤ u.periodCount + 1 then { u with periodCount := 0, startDue := true }
    else { u with periodCount := u.periodCount + 1 }
  else u

/-- The clock's part in a tick: r at 1 makes the expiry due, else r and the candidate move; the window counts down
(R16). -/
def Clock.tick (k : Clock) : Clock :=
  let k := if k.r ≤ 1 then { k with expiryDue := true } else k.count
  { k with window := k.window.map (· - 1) }

/-- ONE_SECOND_TICK: the clock's counts, the schedule elapsed count and the sense period count; an expiry still
outstanding is taken first (R16, R48, R116, log 9). -/
def execOneSecondTick (s : State) : Host.Outcome State Fault Refusal :=
  s.whenPowered fun s =>
    let s := if s.clock.expiryDue then s.takeExpiry else s
    ((s.setClock s.clock.tick).setLink s.link.tick).setSupply (s.supply.tick s.sensePeriod)

/-- LISTEN_WINDOW_EXPIRY: the window has reached 0 and the clock aligns alone (R21). -/
def execListenWindowExpiry (s : State) : Host.Outcome State Fault Refusal :=
  s.whenPowered fun s => if isDue s.clock.window then s.align else s

/-- LISTEN_WINDOW_START: at the end of START the window starts, with a working configuration and the clock UNALIGNED, as
they stand when this event is taken (R21, log 56). -/
def execListenWindowStart (s : State) : Host.Outcome State Fault Refusal :=
  s.whenPowered fun s =>
    if s.clock.listenDue then
      s.setClock { s.clock with
        listenDue := false
        window := if s.config.isSome && s.clock.alignment = .unaligned then some s.clock.length else s.clock.window }
    else s

/-- The clock with a completed configuration's numbering (R32). -/
def Clock.numbered (k : Clock) (g : Configuration) (start : Bool) : Clock :=
  let length := intervalLength g.lengthCode
  { k with
    lengthCode := g.lengthCode
    c := if k.c ≤ g.startInterval then g.startInterval else k.c
    r := if k.c ≤ g.startInterval then g.startRemaining else min k.r length
    alignment := .unaligned, farAhead := [], candidate := none
    window := if start then none else some length }

/-- SET_NUMBERING: at a completed configuration write the clock takes the new length and numbering and is UNALIGNED
(R32). Where a second write has completed before it, one SET_NUMBERING takes both, with the last record alone
(log 52). -/
def execSetNumbering (s : State) : Host.Outcome State Fault Refusal :=
  s.whenPowered fun s =>
    match s.config with
    | some g =>
      if s.completionDue s.clock.epoch then
        s.setClock { s.clock.numbered g (s.supervisor.op = .start) with
          epoch := s.store.completions, completionC := s.numberedC }
      else s
    | none => s

end Sys2Proof.Machine
end

