-- ==== Sys2Proof/Machine/Carrier.lean ====
section
/-! DEFINITION. The carrier link (03): receiving, the receive queue, sending and the events that reach the transmit
side. -/

namespace Sys2Proof.Machine

/-! ### Times and sizes -/

/-- The stall check (R39), the break (R40), the defer limit (R49) and the echo window (R51), in milliseconds. -/
abbrev stallMs : Nat := 10
abbrev breakMs : Nat := 50
abbrev deferMs : Nat := 20000
abbrev echoMs : Nat := 100

/-- Bytes of a frame (R212) and entries of the receive queue (R45). -/
abbrev frameSize : Nat := 28
abbrev receiveSize : Nat := 8

/-! ### Ends of a copy -/

/-- The transmit side IDLE with REQ lowered and no timer. -/
def Link.idle (k : Link) : Link :=
  { k with tx := .idle, req := false, copy := none, deferLimit := none, echoWindow := none }

/-- One copy counted missed. -/
def Link.missed (k : Link) : Link := { k with counters := { k.counters with missed := count16 k.counters.missed } }

/-- A copy in WAITING abandoned: REQ lowered, counted missed (R53, R54). -/
def Link.abandonWaiting (k : Link) : Link := if k.tx = .waiting then k.idle.missed else k

/-- Whether a copy is in WAITING, SENDING or ECHO. -/
def Link.copyBusy (k : Link) : Bool := k.tx == .waiting || k.tx == .sending || k.tx == .echo

/-- A copy in flight abandoned, whatever its state (R55, R56). -/
def Link.abandon (k : Link) : Link := if k.copyBusy then k.idle.missed else k

/-- The echo check decided as a collision, if one runs (R52). -/
def Link.collide (k : Link) : Link :=
  if k.tx = .echo then
    { k.idle with counters := { k.counters with collisions := count16 k.counters.collisions } }
  else k

/-- The echo check decided as sent, if one runs (R52). -/
def Link.sent (k : Link) : Link :=
  if k.tx = .echo then { k.idle with counters := { k.counters with sent := count16 k.counters.sent } } else k

/-! ### Receiving (R36 to R45) -/

/-- HUNT with nothing in assembly and no stall check. -/
def Link.hunt (k : Link) : Link := { k with rx := .hunt, assembly := [], stall := none }

/-- A frame discarded as a check failure, which decides a running echo check (R38, R42, R52). -/
def Link.checkFailure (k : Link) : Link :=
  ({ k.hunt with counters := { k.counters with checkFailures := count16 k.counters.checkFailures } }).collide

/-- A good frame that is no echo enters the queue, or is lost as an overrun (R45). -/
def Link.enqueue (k : Link) (content : List Byte) (stamp : Stamp) : Link :=
  if k.queue.length < receiveSize then
    { k with
      queue := k.queue ++ [⟨content, stamp, false⟩], counters := { k.counters with good := count16 k.counters.good } }
  else { k with counters := { k.counters with overruns := count16 k.counters.overruns } }

/-- The 24 content bytes of a frame. -/
def contentOf (frame : List Byte) : List Byte := (frame.drop 2).take 24

/-- The completion of a frame: the check, the echo comparison, then stamp and queue (R42 to R45, R52). -/
def Link.complete (k : Link) (frame : List Byte) (stamp : Stamp) : Link :=
  if frame.drop 26 == checkBytes (contentOf frame) then
    if k.echoReference = some frame then k.hunt.sent else (k.hunt.collide).enqueue (contentOf frame) stamp
  else k.checkFailure

/-- A received byte in RECEIVING (R38, R39). -/
def Link.receive (k : Link) (b : Byte) (stamp : Stamp) : Link :=
  let frame := k.assembly ++ [b]
  if frame.length = 2 ∧ b ≠ 24#8 then k.checkFailure
  else if frameSize ≤ frame.length then k.complete frame stamp
  else { k with assembly := frame, stall := some stallMs }

/-- Whether the receive side is halted: SUSPENDED ignores every character event and every break (R56). -/
def Link.halted (k : Link) : Bool := k.tx == .suspended

/-- The clock as a frame is stamped by it: in the new numbering from the completion of a configuration write on, whether
the clock has taken it yet or not (R46, log 8). -/
def State.stampClock (s : State) : Clock :=
  match s.config with
  | some g => if s.completionDue s.clock.epoch then s.clock.numbered g (s.supervisor.op = .start) else s.clock
  | none => s.clock

/-- The stamp of a frame that completes now: the node's position and the numbering it stands in (R44, log 40). -/
def State.stamp (s : State) : Stamp := ⟨s.stampClock.c, s.stampClock.r, s.clock.jumps, s.store.completions⟩

/-- RECEIVED_BYTE: a character with a high stop bit is taken by the receive state (R36 to R45). -/
def execReceivedByte (b : Byte) (s : State) : Host.Outcome State Fault Refusal :=
  s.whenPowered fun s =>
    if s.link.halted then s
    else match s.link.rx with
      | .hunt =>
        if b = 0xC3#8 then s.setLink { s.link with rx := .receiving, assembly := [b], stall := some stallMs } else s
      | .receiving => s.setLink (s.link.receive b s.stamp)
      | .fault => s

/-- FRAMING_ERROR: a character with a low stop bit ends a frame in assembly as a check failure (R37, R38). -/
def execFramingError (s : State) : Host.Outcome State Fault Refusal :=
  s.whenPowered fun s =>
    if s.link.rx = .receiving ∧ ¬ s.link.halted then s.setLink s.link.checkFailure else s

/-- STALL_CHECK_EXPIRY: 10 ms without a byte in RECEIVING discard the frame as a stall (R39, R52). -/
def execStallCheckExpiry (s : State) : Host.Outcome State Fault Refusal :=
  s.whenPowered fun s =>
    if s.link.rx = .receiving && isDue s.link.stall then
      let k := s.link
      s.setLink ({ k.hunt with counters := { k.counters with stalls := count16 k.counters.stalls } }).collide
    else s

/-! ### Breaks (R40, R41, R55) -/

/-- RXD_FALLING_EDGE: the break measurement starts, in HUNT and in RECEIVING (R40). -/
def execRxdFallingEdge (s : State) : Host.Outcome State Fault Refusal :=
  .next (
    if s.pins.rxd then
      let s := s.setPins { s.pins with rxd := false }
      if s.supervisor.powered && s.link.rx != .fault && !s.link.halted then
        s.setLink { s.link with breakTimer := some breakMs }
      else s
    else s)

/-- BREAK: RXD has been low for 50 ms: FAULT, and the copy in flight abandoned (R40, R55). -/
def execRxdBreak (s : State) : Host.Outcome State Fault Refusal :=
  s.whenPowered fun s =>
    if isDue s.link.breakTimer then
      let k := s.link.hunt
      s.setLink ({ k with
        rx := .fault, breakTimer := none, counters := { k.counters with breaks := count16 k.counters.breaks } }).abandon
    else s

/-- RXD_RISING_EDGE: the line is high again: the measurement stops and FAULT is left for HUNT (R41). -/
def execRxdRisingEdge (s : State) : Host.Outcome State Fault Refusal :=
  .next (
    let s := s.setPins { s.pins with rxd := true }
    let k : Link := { s.link with breakTimer := none }
    s.setLink (if k.rx = .fault then k.hunt else k))

/-! ### The schedule (R47, R53) and the jump (R46, R54) -/

/-- The old schedule settled (R53). -/
def Link.settleSchedule (k : Link) : Link := { k.abandonWaiting with schedule := [], awaiting := none }

/-- Whether the meter input block has not taken the boundary that ends k yet (R47). -/
def Meter.boundaryAwaits (m : Meter) (k : Nat) : Bool :=
  m.inbox.any fun n => match n with
    | .boundary j _ _ _ => j == k
    | .jump _ _ _ _ => false

/-- COPY_SCHEDULE_BUILD: the link takes a boundary notification: the old schedule settled and, if ALIGNED, the new one
built, at once or in the event that makes the record (R47, R53, log 32). A boundary issued in HOLD-UP and taken after the
exit builds one, in the interval in which the node left HOLD-UP (log 58). -/
def execCopyScheduleBuild (s : State) : Host.Outcome State Fault Refusal :=
  s.whenPowered fun s =>
    match boundaryFront s.store.completions s.link.epoch s.link.inbox with
    | .noOccasion => s
    | .discarded rest => s.setLink { s.link with inbox := rest }
    | .delivered n rest =>
      let s := s.setLink { s.link.settleSchedule with inbox := rest }
      if n.alignment = .aligned then
        if s.meter.boundaryAwaits n.k then s.setLink { s.link with awaiting := some n.k }
        else s.buildSchedule n.k n.newC
      else s

/-- The schedule emptied, a copy in WAITING abandoned, and the queued frames marked pre-jump whose stamps the
renumbering replaces (R46, R54); one stamped in the new numbering already carries no mark (R31, R44, log 40). -/
def Link.renumber (k : Link) (replaced : Stamp → Bool) : Link :=
  { k.settleSchedule with queue := k.queue.map fun x => { x with preJump := x.preJump || replaced x.stamp } }

/-- The jumps among notifications. -/
def jumpsIn (xs : List Notice) : Nat :=
  xs.countP fun n => match n with
    | .jump _ _ _ _ => true
    | .boundary _ _ _ _ => false

/-- PRE_JUMP_MARK: the link takes a jump notification (R31, R46, R54). The jump is the latest the clock has made but for
those that still wait behind it, and it replaces the stamps taken before it. -/
def execPreJumpMark (s : State) : Host.Outcome State Fault Refusal :=
  s.whenPowered fun s =>
    match jumpFront s.store.completions s.link.epoch s.link.inbox with
    | .noOccasion => s
    | .discarded rest => s.setLink { s.link with inbox := rest }
    | .delivered _ rest =>
      let jump := s.clock.jumps - jumpsIn rest
      s.setLink { s.link.renumber fun x => decide (x.jumps < jump) with inbox := rest }

/-- LINK_CONFIGURATION_WRITE: the link takes the completion of a configuration write, which replaces the stamps taken
before it; an entry stamped after the completion keeps no mark (R46, R54, log 40). -/
def execLinkConfigurationWrite (s : State) : Host.Outcome State Fault Refusal :=
  s.whenPowered fun s =>
    if s.completionDue s.link.epoch then
      s.setLink { s.link.renumber fun x => s.completionDue x.completions with epoch := s.store.completions }
    else s

/-! ### Sending a copy (R49 to R52) -/

/-- The supply state and HELD flag a frame carries: GRID and HELD where no record is held (R51, R128). -/
def frameSupply : Option SupplyRecord → SupplyState × Bool
  | some x => (x.state, x.source == .held)
  | none => (.grid, true)

/-- SENDING entered: the frame built from the record of c-1, stored as the echo reference and sent; with no record the
copy is missed (R51). The record is handed over with the snapshot's parity checked; a failed check hands nothing, misses
the copy and is reported (R6, log 12). Between the completion of a configuration write and the link's take of it, the frame
carries the new code, id and length code beside the clock's c and r and the record as they stand (log 53). -/
def State.enterSending (copy : CopyMark) (s : State) : State :=
  match s.meter.recordOf (s.clock.c - 1), s.config with
  | some own, some g =>
    if 1 ≤ s.clock.c then
      if s.meter.snapshotParity then
        let supply := frameSupply (s.supply.recordOf (s.clock.c - 1))
        let content := frameContent g s.clock.c s.clock.r own supply.1 supply.2 copy
        s.setLink { s.link with
          tx := .sending, copy := some copy, deferLimit := none, echoReference := some (frameBytes content) }
      else (s.setLink s.link.idle.missed).parityFault
    else s.setLink s.link.idle.missed
  | _, _ => s.setLink s.link.idle.missed

/-- COPY_DUE: the schedule elapsed count has reached a copy's offset: REQ raised and the copy waits for CLR, or it is
missed (R49, R50). -/
def execCopyDue (s : State) : Host.Outcome State Fault Refusal :=
  s.whenPowered fun s =>
    match s.link.schedule with
    | x :: rest =>
      if x.offset ≤ s.link.elapsed then
        let mark : CopyMark := ⟨s.link.scheduleCount, x.index⟩
        let s := s.setLink { s.link with schedule := rest }
        if s.link.tx = .idle ∧ s.link.rx ≠ .fault then
          let s := s.setLink { s.link with tx := .waiting, req := true, copy := some mark, deferLimit := some deferMs }
          if s.pins.clr then s.enterSending mark else s
        else s.setLink s.link.missed
      else s
    | [] => s

/-- CLR_ASSERTED: CLR changes level; asserted in WAITING it starts the sending (R50, log 10). -/
def execClrAsserted (level : Bool) (s : State) : Host.Outcome State Fault Refusal :=
  .next (
    let s := s.setPins { s.pins with clr := level }
    match s.link.copy with
    | some mark => if level && s.link.tx = .waiting then s.enterSending mark else s
    | none => s)

/-- DEFER_LIMIT_EXPIRY: 20 s in WAITING: the copy is missed and REQ lowered (R50). -/
def execDeferLimitExpiry (s : State) : Host.Outcome State Fault Refusal :=
  s.whenPowered fun s =>
    if s.link.tx = .waiting && isDue s.link.deferLimit then s.setLink s.link.idle.missed else s

/-- LAST_BYTE_SENT: the copy's last stop bit ends: REQ lowered, ECHO, the echo window started (R51). -/
def execLastByteSent (s : State) : Host.Outcome State Fault Refusal :=
  s.whenPowered fun s =>
    if s.link.tx = .sending then s.setLink { s.link with tx := .echo, req := false, echoWindow := some echoMs } else s

/-- ECHO_WINDOW_EXPIRY: no frame ended within the window: a collision (R52). -/
def execEchoWindowExpiry (s : State) : Host.Outcome State Fault Refusal :=
  s.whenPowered fun s => if isDue s.link.echoWindow then s.setLink s.link.collide else s

/-! ### HOLD-UP and the LINE restart (R56, R57) -/

/-- LINK_HOLD_UP_ENTRY: SUSPENDED, a copy in flight abandoned, the schedule emptied, receiving halted in HUNT (R56). -/
def execLinkHoldUpEntry (s : State) : Host.Outcome State Fault Refusal :=
  s.whenPowered fun s =>
    match s.link.power with
    | .entry :: rest =>
      s.setLink { s.link.abandon.idle.hunt with
        tx := .suspended, schedule := [], awaiting := none, breakTimer := none, power := rest }
    | .exit :: _ => s
    | [] => s

/-- LINK_HOLD_UP_EXIT: IDLE, receiving resumed in HUNT, the break measurement afresh (R56). -/
def execLinkHoldUpExit (s : State) : Host.Outcome State Fault Refusal :=
  s.whenPowered fun s =>
    match s.link.power with
    | .exit :: rest =>
      s.setLink { s.link.idle.hunt with
        awaiting := none, breakTimer := if s.pins.rxd then none else some breakMs, power := rest }
    | .entry :: _ => s
    | [] => s

/-- A LINE restart: receiving in HUNT, the queue empty, a copy in flight abandoned, the schedule kept, the counters 0 but
for that copy (R57). The transmit state, and not the operating state, says whether the link stays SUSPENDED (log 58). -/
def Link.lineRestart (k : Link) : Link :=
  let k' := { k.idle.hunt with queue := [], echoReference := none, counters := .zero }
  let k' := if k.copyBusy then k'.missed else k'
  if k.tx = .suspended then { k' with tx := .suspended } else k'

end Sys2Proof.Machine
end

