-- ==== Sys2Proof/Machine/Village.lean ====
section
/-! DEFINITION. The peer table (04): the take of a frame, boundaries, jumps and commissioning. -/

namespace Sys2Proof.Machine

/-! ### Entries (R60 to R64) -/

/-- Entries the table holds at most. -/
abbrev tableSize : Nat := 48

/-- A new entry (R61). -/
def Entry.created (id : Nat) : Entry :=
  { id := id, state := .learning, age := 0, heard := 0, lead := none, restartedSeen := false, anchor := none,
    slots := [], parity := true }

/-- The entry of an id. -/
def Peers.find (p : Peers) (id : Nat) : Option Entry := p.entries.find? fun e => e.id == id

/-- The table without the entry of an id. -/
def Peers.free (p : Peers) (id : Nat) : Peers := { p with entries := p.entries.filter fun e => e.id != id }

/-- An entry put in its place in ascending id order. -/
def insertEntry (x : Entry) : List Entry → List Entry
  | [] => [x]
  | e :: es => if x.id ≤ e.id then x :: e :: es else e :: insertEntry x es

/-- The table with the entry of its id replaced, or added. -/
def Peers.put (p : Peers) (x : Entry) : Peers :=
  { p with entries := insertEntry x (p.entries.filter fun e => e.id != x.id) }

/-- Parity discards counted (R64). -/
def TableCounters.discards (x : TableCounters) (n : Nat) : TableCounters :=
  if n = 0 then x else { x with parityDiscards := satAdd max16 x.parityDiscards n }

/-- The table with the entries that fail their parity check freed and counted, where it reads every entry that `reads`
selects (R64). -/
def Peers.purge (p : Peers) (reads : Entry → Bool) : Peers :=
  { p with
    entries := p.entries.filter fun e => e.parity || !reads e
    counters := p.counters.discards (p.entries.countP fun e => !e.parity && reads e) }

/-- The slot of a label. -/
def Entry.slot (e : Entry) (x : Nat) : Option Slot := e.slots.find? fun y => y.label == x

/-- A slot put in its place in ascending label order. -/
def insertSlot (x : Slot) : List Slot → List Slot
  | [] => [x]
  | y :: ys => if x.label ≤ y.label then x :: y :: ys else y :: insertSlot x ys

/-- The entry with a slot filled or replaced (R72). -/
def Entry.putSlot (e : Entry) (x : Slot) : Entry :=
  { e with slots := insertSlot x (e.slots.filter fun y => y.label != x.label) }

/-! ### Identity (R66) -/

/-- What the identity check finds. -/
inductive Identity
  | foreign
  | duplicate
  | peer
  deriving DecidableEq, Repr

/-- The identity check against the working configuration; with none every frame is FOREIGN (R66). -/
def identityOf (g : Option Configuration) (f : Frame) : Identity :=
  match g with
  | some g =>
    if f.cooperative ≠ g.cooperative ∨ f.lengthCode ≠ g.lengthCode ∨ f.sender = 0 ∨ 250 < f.sender then .foreign
    else if f.sender = g.nodeId then .duplicate else .peer
  | none => .foreign

/-! ### Lookup and victim (R67, R68) -/

/-- The better victim of two: the greater silence age, then the lower id. -/
def betterVictim (a : Option Entry) (e : Entry) : Option Entry :=
  match a with
  | none => some e
  | some x => if x.age < e.age then some e else some x

/-- The entries considered as victims: the SILENT ones, or the LEARNING ones where none is SILENT. -/
def Peers.candidateState (p : Peers) : EntryState :=
  if p.entries.any fun e => e.state == .silent then .silent else .learning

/-- A place made in a full table: entries considered that fail their parity are freed, else the victim is; none where
there is no victim (R68, log 27). -/
def Peers.makePlace (p : Peers) : Option Peers :=
  let considered := fun e : Entry => e.state == p.candidateState
  let q := p.purge considered
  if q.entries.length < tableSize then some q
  else ((q.entries.filter considered).foldl betterVictim none).map fun v => q.free v.id

/-- The lookup of a sender: its entry, a new one, or none, with the table after (R67, R68). -/
def Peers.lookup (p : Peers) (id : Nat) : Option Entry × Peers :=
  let p := p.purge fun e => e.id == id
  match p.find id with
  | some e => (some e, p)
  | none =>
    if p.entries.length < tableSize then (some (.created id), p)
    else match p.makePlace with
      | some q => (some (.created id), q)
      | none => (none, { p with counters := { p.counters with tableFull := count16 p.counters.tableFull } })

/-- A frame counted for its entry (R67). -/
def Entry.hear (e : Entry) : Entry := { e with heard := count16 e.heard, age := 0 }

/-! ### The verdict and the restarted flag (R69, R70) -/

/-- A lead held within the entry's range (R61). -/
def clampLead (lead : Int) : Int := max (-2147483647) (min 2147483647 lead)

/-- An entry becomes DISCORDANT: slots and anchor are lost; one that is DISCORDANT stays so (R69). -/
def Entry.discord (e : Entry) : Entry :=
  if e.state = .discordant then e else { e with state := .discordant, slots := [], anchor := none }

/-- The clock's verdict applied (R69). -/
def Entry.judge (e : Entry) (verdict : Verdict) (lead : Int) : Entry :=
  match verdict with
  | .inStep =>
    { e with lead := some (clampLead lead), state := if e.state = .discordant then .active else e.state }
  | .far => { e with lead := some (clampLead lead) }
  | .behind => { e.discord with lead := some (clampLead lead) }
  | .none => e

/-- The restarted flag applied (R70). -/
def Entry.restartFlag (e : Entry) (restarted : Bool) : Entry :=
  if restarted then { e with anchor := none, restartedSeen := true } else { e with restartedSeen := false }

/-- Whether a frame's restarted flag counts a peer restart (R70). -/
def Entry.countsRestart (e : Entry) (restarted : Bool) : Bool := restarted && !e.restartedSeen

/-! ### Classification, slots, recovery and anchor (R71 to R75) -/

/-- The class of a frame. -/
inductive FrameClass
  | ahead
  | inWindow
  | late
  deriving DecidableEq, Repr

/-- The class of an announcement made at `ci` against the table interval `c`; EARLY and DIRECT are filed alike (R71). -/
def classOf (ci c : Nat) : FrameClass :=
  if ci = 0 then .late else if c < ci - 1 then .ahead else if ci - 1 + 2 < c then .late else .inWindow

/-- The DIRECT slot a frame fills (R72). -/
def Frame.directSlot (f : Frame) : Slot :=
  { label := f.ci - 1, status := .direct, exportWh := f.exportWh, importWh := f.importWh, saturated := f.saturated,
    supply := f.supply, senderHeld := f.held }

/-- Slot x filled; a LEARNING or SILENT entry becomes ACTIVE (R72). -/
def Entry.fill (e : Entry) (f : Frame) : Entry :=
  { e.putSlot f.directSlot with
    state := if e.state = .learning ∨ e.state = .silent then .active else e.state }

/-- Whether slot x-1 is recovered: EMPTY, in the window, the anchor at x-2 and the frame not saturated (R73). -/
def Entry.recovers (e : Entry) (f : Frame) (c : Nat) : Option Anchor :=
  match e.anchor with
  | some a =>
    if 3 ≤ f.ci ∧ (e.slot (f.ci - 2)).isNone ∧ c ≤ f.ci - 2 + 2 ∧ a.interval = f.ci - 3 ∧ ¬ f.saturated then some a
    else none
  | none => none

/-- The recovered difference of one channel (R73). -/
def recovered (cumulative : Word32) (figure : Nat) (anchor : Word32) : Word32 :=
  cumulative - BitVec.ofNat 32 figure - anchor

/-- A difference of 2^31 or more (R74). -/
def regressed (d : Word32) : Bool := decide (2147483648 ≤ d.toNat)

/-- The slot a recovery makes: BROKEN on a regression, else RECOVERED (R74). -/
def recoverySlot (label : Nat) (dExport dImport : Word32) : Slot :=
  if regressed dExport || regressed dImport then
    { label := label, status := .broken, exportWh := 0, importWh := 0, saturated := false, supply := none,
      senderHeld := false }
  else
    { label := label, status := .recovered, exportWh := min max16 dExport.toNat, importWh := min max16 dImport.toNat
      saturated := decide (max16 < dExport.toNat) || decide (max16 < dImport.toNat), supply := none,
      senderHeld := false }

/-- The slot recovered from a frame, if recovery is made (R73, R74). -/
def Entry.recovery (e : Entry) (f : Frame) (c : Nat) : Option Slot :=
  (e.recovers f c).map fun a =>
    recoverySlot (f.ci - 2) (recovered f.cumExport f.exportWh a.cumExport) (recovered f.cumImport f.importWh a.cumImport)

/-- The anchor after a frame with ci ≥ 1: the later interval end (R75). -/
def Entry.anchorFrom (e : Entry) (f : Frame) : Entry :=
  let keep := match e.anchor with
    | some a => decide (f.ci - 1 ≤ a.interval)
    | none => false
  if f.ci = 0 || keep then e else { e with anchor := some ⟨f.ci - 1, f.cumExport, f.cumImport⟩ }

/-- A recovery's outcome counted (R74). -/
def TableCounters.recovery (x : TableCounters) : Option Slot → TableCounters
  | some y =>
    if y.status = .broken then { x with broken := count16 x.broken } else { x with recovered := count16 x.recovered }
  | none => x

/-- An EARLY or DIRECT frame filed: slot, recovery, anchor (R72 to R75). -/
def Entry.file (e : Entry) (f : Frame) (c : Nat) : Entry × Option Slot :=
  let e := e.fill f
  let slot := e.recovery f c
  let e := match slot with
    | some x => e.putSlot x
    | none => e
  (e.anchorFrom f, slot)

/-- A frame's figures applied to its entry (R71 to R76). -/
def Peers.figures (p : Peers) (e : Entry) (f : Frame) : Peers :=
  if e.state = .discordant then
    { p.put e with counters := { p.counters with discordant := count16 p.counters.discordant } }
  else match classOf f.ci p.tableInterval with
    | .ahead => { p.put e with counters := { p.counters with ahead := count16 p.counters.ahead } }
    | .late => { p.put (e.anchorFrom f) with counters := { p.counters with late := count16 p.counters.late } }
    | .inWindow =>
      let filed := e.file f p.tableInterval
      { p.put filed.1 with counters := p.counters.recovery filed.2 }

/-- The frame's entry after the verdict and the restarted flag, its figures applied (R69 to R76). -/
def Peers.apply (p : Peers) (e : Entry) (f : Frame) (verdict : Verdict) (lead : Int) : Peers :=
  let e := e.hear.judge verdict lead
  let p := if e.countsRestart f.restarted then
      { p with counters := { p.counters with peerRestarts := count16 p.counters.peerRestarts } }
    else p
  p.figures (e.restartFlag f.restarted) f

/-- Whether a queued frame counts as marked pre-jump: it is; a jump or a completed configuration write, which the link
may have still to take, has replaced its stamp's numbering (R77, R46); or the clock has such a completion still to take,
and its numbering is not yet the stamp's (log 40). -/
def State.marked (s : State) (x : QueueEntry) : Bool :=
  x.preJump || decide (x.stamp.jumps < s.clock.jumps) || s.completionDue x.stamp.completions
    || s.completionDue s.clock.epoch

/-- The alignment input of a queued frame (R69). -/
def inputOf (f : Frame) (x : QueueEntry) (marked : Bool) : AlignmentInput :=
  { sender := f.sender, ci := f.ci, ri := f.ri, stampC := x.stamp.c, stampR := x.stamp.r, preJump := marked }

/-- The take of a frame that passes the identity checks (R67 to R76). -/
def State.takePeerFrame (x : QueueEntry) (f : Frame) (s : State) : State :=
  let found := s.peers.lookup f.sender
  let judged := (s.setPeers found.2).alignmentInput (inputOf f x (s.marked x))
  match found.1 with
  | some e => judged.2.2.setPeers (judged.2.2.peers.apply e f judged.1 judged.2.1)
  | none => judged.2.2

/-- The take of one queue entry, by its identity (R66). Between the completion of a configuration write and the table's
take of it, the new identity is checked and the figures go to entries that the take then frees (log 55). -/
def State.takeFrame (x : QueueEntry) (s : State) : State :=
  let f := Frame.ofContent x.content
  match identityOf s.config f with
  | .foreign =>
    s.setPeers { s.peers with counters := { s.peers.counters with foreign := count16 s.peers.counters.foreign } }
  | .duplicate =>
    (s.setPeers { s.peers with
      counters := { s.peers.counters with duplicate := count16 s.peers.counters.duplicate } }).setSupervisor
      { s.supervisor with cause := { s.supervisor.cause with duplicateId := true } }
  | .peer => s.takePeerFrame x f

/-- FRAME_TAKE: the oldest queue entry leaves the queue and is applied (R65 to R76). -/
def execFrameTake (s : State) : Host.Outcome State Fault Refusal :=
  s.whenPowered fun s =>
    match s.link.queue with
    | x :: rest =>
      if s.peers.taking then (s.setLink { s.link with queue := rest }).takeFrame x else s
    | [] => s

/-- TAKING_BEGINS: at the end of START the table begins taking frames (R65, R180). -/
def execTakingBegins (s : State) : Host.Outcome State Fault Refusal :=
  s.whenPowered fun s => if s.supervisor.op ≠ .start then s.setPeers { s.peers with taking := true } else s

/-! ### Participant lists (R78, R79) -/

/-- The counted slot of an entry for interval j: DIRECT or RECOVERED. -/
def Entry.countedSlot (e : Entry) (j : Nat) : Option Slot :=
  (e.slot j).filter fun x => x.status == .direct || x.status == .recovered

/-- A counted peer as the list copies it. -/
def countedPeer (id : Nat) (x : Slot) : CountedPeer :=
  { id := id, status := x.status, exportWh := x.exportWh, importWh := x.importWh, saturated := x.saturated,
    supply := x.supply, senderHeld := x.senderHeld }

/-- The participant list of interval j over entries whose parity agrees. -/
def listOf (entries : List Entry) (j : Nat) : ParticipantList :=
  { counted := entries.filterMap fun e => (e.countedSlot j).map (countedPeer e.id)
    expected := entries.countP fun e => e.state == .active || (e.countedSlot j).isSome }

/-! ### Boundaries, jumps and commissioning (R78 to R83) -/

/-- An entry at a boundary that ends k: the slots below the new window, k-1 to k+1, are freed and the entry is aged; a
SILENT entry at 255 is freed (R62, R80, R81). The window moves by one, and what falls out of it is slot k-2; only where a
completion set the table interval and a boundary of the old numbering followed (log 7) do lower slots fall out with it. -/
def Entry.atBoundary (e : Entry) (k : Nat) : Option Entry :=
  let age := satInc 255 e.age
  if e.state = .silent ∧ age = 255 then none
  else some { e with
    slots := e.slots.filter fun x => decide (k < x.label + 2)
    age := age
    state := if e.state ≠ .silent ∧ 4 ≤ age then .silent else e.state }

/-- PEER_TABLE_BOUNDARY: the table takes a boundary notification: the list of k-2 if ALIGNED, its slots freed, every
entry aged (R78 to R81). -/
def execPeerTableBoundary (s : State) : Host.Outcome State Fault Refusal :=
  s.whenPowered fun s =>
    match boundaryFront s.store.completions s.peers.epoch s.peers.inbox with
    | .noOccasion => s
    | .discarded rest => s.setPeers { s.peers with inbox := rest }
    | .delivered n rest =>
      let p := s.peers.purge fun _ => true
      let s := s.setPeers { p with
        entries := p.entries.filterMap fun e => e.atBoundary n.k, tableInterval := n.newC, inbox := rest }
      if n.alignment = .aligned ∧ 2 ≤ n.k then
        (s.takeInput (boundaryOrder n.k) (n.k - 2) (.list (listOf p.entries (n.k - 2)))).run
      else s

/-- PEER_TABLE_JUMP: the table takes a jump notification: from ALIGNED the lists of the old c-2 and old c-1, then every
slot freed (R82). -/
def execPeerTableJump (s : State) : Host.Outcome State Fault Refusal :=
  s.whenPowered fun s =>
    match jumpFront s.store.completions s.peers.epoch s.peers.inbox with
    | .noOccasion => s
    | .discarded rest => s.setPeers { s.peers with inbox := rest }
    | .delivered n rest =>
      let p := s.peers.purge fun _ => true
      let s := s.setPeers { p with
        entries := p.entries.map fun e => { e with slots := [] }, tableInterval := n.newC, inbox := rest }
      if n.alignment = .aligned then
        (s.takeInputs (jumpOrder n.oldC) ((cutShortIntervals n.oldC).map fun j => (j, .list (listOf p.entries j)))).run
      else s

/-- PEER_TABLE_COMMISSIONING: every entry freed and the table interval set to the clock's c (R83). -/
def execPeerTableCommissioning (s : State) : Host.Outcome State Fault Refusal :=
  s.whenPowered fun s =>
    if s.completionDue s.peers.epoch then
      s.setPeers { s.peers with entries := [], tableInterval := s.completionC, epoch := s.store.completions }
    else s

end Sys2Proof.Machine
end

