-- ==== Sys2Proof/Machine/Sense.lean ====
section
/-! DEFINITION. Supply sense (06): the converter, the island line and the supply records. -/

namespace Sys2Proof.Machine

/-! ### Starting and completing conversions (R115 to R120) -/

/-- The settling delay (R115) and one sampling window (R118), in milliseconds. -/
abbrev settlingMs : Nat := 2000
abbrev sampleMs : Nat := 100

/-- SETTLING entered: the timer at 2,000 ms, the period count at 0 (R115). -/
def Supply.settle (u : Supply) : Supply :=
  { u with converter := .settling, settling := .running settlingMs, periodCount := 0, startDue := false }

/-- The channel the sequence count selects (R117). -/
def senseChannel (sequence : Nat) : SenseChannel := if sequence = 0 then .reference else .feeder

/-- What a conversion takes from outside the block at its start: A, the configuration writes completed, the time. -/
structure StartTerms where
  accumulation : Nat
  completions : Nat
  now : Word32
  deriving DecidableEq, Repr

/-- The terms of a conversion that starts now. -/
def State.startTerms (s : State) : StartTerms := ⟨s.accumulation, s.store.completions, s.meter.timebase⟩

/-- A conversion started: channel and A latched, the due time recorded, the sequence advanced (R116, R117). -/
def Supply.start (u : Supply) (t : StartTerms) : Supply :=
  { u with
    converter := .converting
    flight := some ⟨senseChannel u.sequence, t.accumulation, t.now + BitVec.ofNat 32 (t.accumulation * sampleMs), false,
      t.completions⟩
    sequence := (u.sequence + 1) % 16 }

/-- A start event: a conversion in READY, skipped in CONVERTING; the period count is 0 again (R116). -/
def Supply.startEvent (u : Supply) (t : StartTerms) : Supply :=
  match u.converter with
  | .ready => { u.start t with startDue := false }
  | .converting => { u with startDue := false, skipped := count16 u.skipped }
  | .settling => { u with startDue := false }
  | .halted => { u with startDue := false }

/-- READY entered with a start event at once (R115); the settling timer is stopped (log 42). -/
def Supply.ready (u : Supply) (t : StartTerms) : Supply :=
  { u with settling := .stopped, periodCount := 0 }.start t

/-- SETTLING_TIMER_EXPIRY: the 2,000 ms have passed; a free converter starts its first conversion (R115). -/
def execSettlingTimerExpiry (s : State) : Host.Outcome State Fault Refusal :=
  s.whenPowered fun s =>
    if s.supply.converter = .settling ∧ s.supply.settling = .running 0 then
      if s.supply.flight.isNone then s.setSupply (s.supply.ready s.startTerms)
      else s.setSupply { s.supply with settling := .expired }
    else s

/-- START_EVENT: the period count has reached P, once or more since the last one taken (R116, log 57). -/
def execStartEvent (s : State) : Host.Outcome State Fault Refusal :=
  s.whenPowered fun s =>
    if s.supply.startDue then s.setSupply (s.supply.startEvent s.startTerms) else s

/-- The result of a sum of A samples (R118). -/
def conversionResult (a sum : Nat) : Nat := if a ≤ 16 then sum else sum / (a / 16)

/-- The classification of a feeder result against the window (R119). -/
def feederClass (low high result : Nat) : FeederClass :=
  if result < low then .sag else if high < result then .swell else .normal

/-- A valid feeder conversion counted (R119, R125). -/
def OpenRecord.count (o : OpenRecord) (cls : FeederClass) : OpenRecord :=
  { o with
    sag := if cls = .sag then count16 o.sag else o.sag
    swell := if cls = .swell then count16 o.swell else o.swell
    valid := count16 o.valid }

/-- A completed FEEDER conversion (R119). -/
def Supply.feederDone (u : Supply) (result : Nat) (cls : FeederClass) : Supply :=
  { u with
    lastFeeder := some ⟨result, cls, !u.senseFault⟩
    openRecord := if u.senseFault then u.openRecord else u.openRecord.count cls }

/-- Whether a reference result lies in the band (R120). -/
def inBand (a result : Nat) : Bool := decide (1984 * min a 16 ≤ result) && decide (result ≤ 2112 * min a 16)

/-- A completed REFERENCE conversion: an out-of-band result sets SENSE-FAULT, the second in-band one clears it
(R120). -/
def Supply.referenceDone (u : Supply) (a result : Nat) : Supply :=
  let u := { u with lastReference := some result }
  if inBand a result then
    if u.senseFault then
      if 1 ≤ u.inBandRun then { u with senseFault := false, inBandRun := 0 } else { u with inBandRun := u.inBandRun + 1 }
    else u
  else { u with senseFault := true, inBandRun := 0, refFailures := count16 u.refFailures }

/-- A conversion with the discard mark completed: only counted (R119). -/
def Supply.discard (u : Supply) : Supply := { u with discarded := count16 u.discarded }

/-- The converter after a completion: READY from CONVERTING, READY with a start event from SETTLING with its timer
expired, else as it is (R115, R119); a conversion without the discard mark does the same (log 59). -/
def Supply.freed (u : Supply) (t : StartTerms) : Supply :=
  match u.converter with
  | .converting => { u with converter := .ready }
  | .settling => if u.settling = .expired then u.ready t else u
  | .ready => u
  | .halted => u

/-- CONVERSION_COMPLETE: the conversion in flight reaches its due time. The operand is the sum of its samples; a sum no
A samples can give finds no occasion (R118 to R120, log 11). A conversion that was in flight when a configuration write
completed is discarded, whether supply sense has marked it yet or not (R121, log 41). -/
def execConversionComplete (sum : Nat) (s : State) : Host.Outcome State Fault Refusal :=
  s.whenPowered fun s =>
    match s.supply.flight with
    | some x =>
      if reached s.meter.timebase x.due then
        let u := { s.supply with flight := none }
        let result := conversionResult x.accumulation sum
        if x.discard || s.completionDue x.completions then s.setSupply (u.discard.freed s.startTerms)
        else if x.accumulation * 4095 < sum then s
        else
          let u := match x.channel with
            | .feeder => u.feederDone result (feederClass s.windowLow s.windowHigh result)
            | .reference => u.referenceDone x.accumulation result
          s.setSupply (u.freed s.startTerms)
      else s
    | none => s

/-! ### HOLD-UP and the SENSE restart (R122, R123) -/

/-- CONVERTER_HALT: HOLD-UP entry halts the converter, and a conversion in flight takes the discard mark (R122). -/
def execConverterHalt (s : State) : Host.Outcome State Fault Refusal :=
  s.whenPowered fun s =>
    match s.supply.power with
    | .entry :: rest =>
      s.setSupply { s.supply with
        converter := .halted, settling := .stopped, periodCount := 0, startDue := false
        flight := s.supply.flight.map fun x => { x with discard := true }
        power := rest }
    | .exit :: _ => s
    | [] => s

/-- CONVERTER_RESETTLE: HOLD-UP exit enters SETTLING (R115, R122), from whatever state the converter has; a conversion in
flight keeps its mark as it is, and one without the mark counts though the converter is SETTLING (log 59). -/
def execConverterResettle (s : State) : Host.Outcome State Fault Refusal :=
  s.whenPowered fun s =>
    match s.supply.power with
    | .exit :: rest => s.setSupply { s.supply.settle with power := rest }
    | .entry :: _ => s
    | [] => s

/-- A SENSE restart (R123). -/
def Supply.senseRestart (u : Supply) (holdUp : Bool) : Supply :=
  let u := { u with
    flight := none, discarded := if u.flight.isSome then count16 u.discarded else u.discarded
    senseFault := false, inBandRun := 0, sequence := 0 }
  if holdUp then { u with converter := .halted, settling := .stopped, periodCount := 0, startDue := false }
  else u.settle

/-! ### The island line (R124) -/

/-- ISL_ASSERTION: ISL changes level; the change to active sets the latch (R124, log 10). -/
def execIslAssertion (level : Bool) (s : State) : Host.Outcome State Fault Refusal :=
  .next (
    let rises := level && !s.pins.isl
    let s := s.setPins { s.pins with isl := level }
    if s.supervisor.powered && rises then
      s.setSupply { s.supply with openRecord := { s.supply.openRecord with island := true } }
    else s)

/-! ### Supply records (R125 to R130) -/

/-- The closed state and source of an open record, with the strain threshold T (R126). -/
def OpenRecord.close (o : OpenRecord) (strain : Nat) (last : SupplyState) : SupplyState × SupplySource :=
  if o.island then (.island, .own)
  else if strain ≤ o.sag ∨ strain ≤ o.swell then (.strained, .own)
  else if 1 ≤ o.valid then (.grid, .own)
  else (last, .held)

/-- The closure at the boundary that ends k (R124 to R127). -/
def Supply.closure (u : Supply) (k strain : Nat) (isl : Bool) : Supply :=
  let closed := u.openRecord.close strain u.lastClosed
  { u with
    ring := enterRing SupplyRecord.interval u.ring ⟨k, closed.1, closed.2⟩
    lastClosed := closed.1
    openRecord := ⟨0, 0, isl, 0⟩ }

/-- SUPPLY_RECORD_CLOSURE: supply sense takes a boundary notification and closes the open record (R126). -/
def execSupplyRecordClosure (s : State) : Host.Outcome State Fault Refusal :=
  s.whenPowered fun s =>
    match boundaryFront s.store.completions s.supply.epoch s.supply.inbox with
    | .noOccasion => s
    | .discarded rest => s.setSupply { s.supply with inbox := rest }
    | .delivered n rest => s.setSupply { s.supply.closure n.k s.strain s.pins.isl with inbox := rest }

/-- SUPPLY_JUMP_HANDOVER: from ALIGNED the records of the old c-2 and old c-1 go to the CUT-SHORT reckonings; the ring is
emptied (R129). -/
def execSupplyJumpHandover (s : State) : Host.Outcome State Fault Refusal :=
  s.whenPowered fun s =>
    match jumpFront s.store.completions s.supply.epoch s.supply.inbox with
    | .noOccasion => s
    | .discarded rest => s.setSupply { s.supply with inbox := rest }
    | .delivered n rest =>
      let answers := (cutShortIntervals n.oldC).map fun j => (j, ReckoningInput.supply (s.supply.recordOf j))
      let s := s.setSupply { s.supply with inbox := rest, ring := [] }
      if n.alignment = .aligned then (s.takeInputs (jumpOrder n.oldC) answers).run else s

/-- SUPPLY_COMMISSIONING: at a completed configuration write the ring is emptied, the open record reset, a conversion that
was in flight then marked and the period count set to 0 (R121, R130). -/
def execSupplyCommissioning (s : State) : Host.Outcome State Fault Refusal :=
  s.whenPowered fun s =>
    if s.completionDue s.supply.epoch then
      s.setSupply { s.supply with
        ring := [], openRecord := ⟨0, 0, s.pins.isl, 0⟩
        flight := s.supply.flight.map fun x => { x with discard := x.discard || s.completionDue x.completions }
        periodCount := 0, startDue := false, epoch := s.store.completions }
    else s

end Sys2Proof.Machine
end

