-- ==== Sys2Proof/Machine/Power.lean ====
section
/-! DEFINITION. The power supervisor (09): the mains, HOLD-UP, power-off and power-up. -/

namespace Sys2Proof.Machine

/-! ### The mains (R178, R182, R183) -/

/-- The debounce times and the power-up measurement, in milliseconds (R178, R184). -/
abbrev mainsLostMs : Nat := 20
abbrev mainsBackMs : Nat := 200
abbrev powerUpMs : Nat := 200

/-- Whether a level of MNS is against the mains state. -/
def Mains.against (m : Mains) (high : Bool) : Bool :=
  match m with
  | .present => !high
  | .lost => high

/-- The unbroken run that changes the mains state. -/
def Mains.debounce : Mains → Nat
  | .present => mainsLostMs
  | .lost => mainsBackMs

/-- The 200 ms measurement of power-off: it runs while SLO is inactive and MNS high (R184). -/
def Pins.powerUpMeasure (p : Pins) : Option Nat := if p.mns && !p.slo then some powerUpMs else none

/-- MNS_EDGE: MNS changes level: the measurement starts or stops; in power-off it is the 200 ms one (R178, R184,
log 10). -/
def execMnsEdge (level : Bool) (s : State) : Host.Outcome State Fault Refusal :=
  .next (
    if s.pins.mns = level then s
    else
      let s := s.setPins { s.pins with mns := level }
      if s.supervisor.powered then
        s.setSupervisor { s.supervisor with
          measure := if s.supervisor.mains.against level then some s.meter.timebase else none }
      else s.setSupervisor { s.supervisor with powerUp := s.pins.powerUpMeasure })

/-- Mains-lost or mains-back: the mains state changes, and in RUN or HOLD-UP the operating state with it (R178, R182,
R183). -/
def State.mainsChange (s : State) : State :=
  match s.supervisor.mains with
  | .present =>
    let s := s.setSupervisor { s.supervisor with mains := .lost, measure := none }
    if s.supervisor.op = .run then (s.setSupervisor { s.supervisor with op := .holdUp }).notifyEntry else s
  | .lost =>
    let s := s.setSupervisor { s.supervisor with mains := .present, measure := none }
    if s.supervisor.op = .holdUp then (s.setSupervisor { s.supervisor with op := .run }).notifyExit else s

/-- MAINS_MEASUREMENT_EXPIRY: MNS has held its level against the mains state for 20 ms low or 200 ms high (R178). -/
def execMainsMeasurementExpiry (s : State) : Host.Outcome State Fault Refusal :=
  s.whenPowered fun s =>
    match s.supervisor.measure with
    | some since =>
      if s.supervisor.mains.debounce ≤ sinceMs s.meter.timebase since then s.mainsChange else s
    | none => s

/-! ### Power-off and power-up (R184, R185) -/

/-- SLO_ASSERTED: SLO becomes active and the node powers off; in power-off it stops the 200 ms measurement (R184). On a
node that a POWER reset started with SLO active already, SLO has first to become inactive (log 44). -/
def execSloAsserted (s : State) : Host.Outcome State Fault Refusal :=
  .next (
    if s.pins.slo then s
    else
      let s := s.setPins { s.pins with slo := true }
      if s.supervisor.powered then s.powerOff else s.setSupervisor { s.supervisor with powerUp := none })

/-- SLO_INACTIVE: SLO becomes inactive; in power-off with MNS high the 200 ms measurement starts (R184). -/
def execSloInactive (s : State) : Host.Outcome State Fault Refusal :=
  .next (
    if s.pins.slo then
      let s := s.setPins { s.pins with slo := false }
      if s.supervisor.powered then s else s.setSupervisor { s.supervisor with powerUp := s.pins.powerUpMeasure }
    else s)

/-- POWER_ON_LEVEL: the supply rises past the power-on level: a POWER reset, out of power-off or without a power-off
before it, where the loss of the supply has ended everything the blocks held and cut the operation in flight (log 15).
In a START that the other event of the same power-up entered, the reset has been made and the rise has no effect (R184,
R185). With SLO active the node starts all the same (log 44). -/
def execPowerOnLevel (s : State) : Host.Outcome State Fault Refusal :=
  .next (
    if s.supervisor.powered then
      if s.supervisor.op = .start ∧ s.supervisor.riseDue then
        s.setSupervisor { s.supervisor with riseDue := false }
      else s.powerOff.nodeReset .power
    else s.nodeReset .power)

/-- A POWER reset with the rise of the same power-up still to come. -/
def State.powerUpBeforeRise (s : State) : State :=
  let t := s.nodeReset .power
  t.setSupervisor { t.supervisor with riseDue := true }

/-- MAINS_RETURN_POWER_UP: SLO inactive and MNS high for 200 ms in power-off: a POWER reset (R184, R185). -/
def execMainsReturnPowerUp (s : State) : Host.Outcome State Fault Refusal :=
  .next (if !s.supervisor.powered && isDue s.supervisor.powerUp then s.powerUpBeforeRise else s)

end Sys2Proof.Machine
end

