-- ==== Sys2Proof/Machine/Collector.lean ====
section
/-! DEFINITION. The collector port (10): assembly of requests, their execution and their responses. -/

namespace Sys2Proof.Machine

/-! ### Receiving (R193 to R196) -/

/-- The gap timer in milliseconds (R194, R195). -/
abbrev gapMs : Nat := 50

/-- The longest request body (R213). -/
abbrev longestBody : Nat := 96

/-- A request ended MALFORMED: answered at once, with its kind byte as received or the no-kind value; it is not held
(R195, R196, R213). -/
def State.malformed (assembly : List Byte) (s : State) : State :=
  (s.setPort { s.port with held := none }).respond (assembly.getD 1 0#8) .malformed []

/-- A complete request checked: check, kind, length; then held for execution (R196). -/
def State.completeRequest (bytes : List Byte) (s : State) : State :=
  let kind := bytes.getD 1 0#8
  let body := (bytes.drop 3).take (bytes.length - 5)
  let covered := (bytes.drop 1).take (bytes.length - 3)
  match RequestKind.ofByte kind with
  | some k =>
    if bytes.drop (bytes.length - 2) == checkBytes covered && body.length == k.bodyLength then
      s.setPort { s.port with
        state := .executing, assembly := [], gap := none, held := some ⟨kind, body⟩, begun := false }
    else s.malformed bytes
  | none => s.malformed bytes

/-- A received byte in RECEIVING: a length above the longest body ends the request, the last check byte completes it
(R195). -/
def State.portAssemble (b : Byte) (s : State) : State :=
  let bytes := s.port.assembly ++ [b]
  let length := (bytes.getD 2 0#8).toNat
  if bytes.length < 3 then s.setPort { s.port with assembly := bytes, gap := some gapMs }
  else if longestBody < length then s.malformed bytes
  else if bytes.length < length + 5 then s.setPort { s.port with assembly := bytes, gap := some gapMs }
  else s.completeRequest bytes

/-- A byte that belongs to no request, counted (R193, R194). -/
def State.portDiscard (s : State) : State := s.setPort { s.port with discarded := count16 s.port.discarded }

/-- PORT_RECEIVED_BYTE: a byte on CRX by the port state (R193 to R196). -/
def execPortReceivedByte (b : Byte) (s : State) : Host.Outcome State Fault Refusal :=
  s.whenPowered fun s =>
    match s.port.state with
    | .wait =>
      if b = 0x5A#8 then s.setPort { s.port with state := .receiving, assembly := [b], gap := some gapMs }
      else s.portDiscard
    | .receiving => s.portAssemble b
    | .executing => s.portDiscard
    | .responding => s.portDiscard

/-- PORT_FRAMING_ERROR: a framing error on CRX ends a request in assembly MALFORMED (R193, R195). -/
def execPortFramingError (s : State) : Host.Outcome State Fault Refusal :=
  s.whenPowered fun s => if s.port.state = .receiving then s.malformed s.port.assembly else s

/-- GAP_TIMER_EXPIRY: 50 ms without a byte end the request MALFORMED (R195). -/
def execGapTimerExpiry (s : State) : Host.Outcome State Fault Refusal :=
  s.whenPowered fun s =>
    if s.port.state = .receiving && isDue s.port.gap then s.malformed s.port.assembly else s

/-- RESPONSE_SENT: the response is over; that of RESTART-NODE lets the pending reset take effect (R198, R186). -/
def execResponseSent (s : State) : Host.Outcome State Fault Refusal :=
  s.whenPowered fun s =>
    if s.port.state = .responding then
      let restart := s.port.held.map (·.kind) == some RequestKind.restartNode.byte
      let s := s.setPort { s.port with state := .wait, held := none, response := none }
      if restart && s.supervisor.resetPending = .requested then
        (s.setSupervisor { s.supervisor with armed := true }).settleReset
      else s
    else s

/-! ### Executing (R197, R198) -/

/-- An execution that a failed parity check ends: no response, the port in WAIT, then the fault (R208). -/
def State.abortRequest (s : State) : State :=
  (s.setPort { s.port with state := .wait, held := none, begun := false }).parityFault

/-- The port waits in EXECUTING for another block (R197). -/
def State.awaitBlock (s : State) : State := s.setPort { s.port with begun := true }

/-- STATUS's block of items, in the order of R199; the port's own state and its discarded-byte count stand last
(log 26). -/
def State.statusBlock (s : State) : List Byte :=
  s.meter.status ++ s.clock.status ++ s.link.status ++ s.peers.status ++ s.reckoning.status
    ++ s.supply.status s.accumulation s.sensePeriod s.pins.isl ++ s.queue.status ++ s.outputs.status ++ s.store.status
    ++ s.supervisor.status s.pins.mns s.pins.slo ++ beBytes 1 s.port.state.code ++ beBytes 2 s.port.discarded

/-- STATUS: a read of every block, all in this one event (R199, R6, R112, R208, log 26). -/
def State.runStatus (s : State) : State :=
  if s.meter.countersOk && s.reckoning.lastParity then s.respond RequestKind.status.byte .ok s.statusBlock
  else s.abortRequest

/-- ACCOUNT: the account and its closed-period summary (R144, R208). -/
def State.runAccount (s : State) : State :=
  if s.account.parity then s.respond RequestKind.account.byte .ok s.account.ledger.bytes else s.abortRequest

/-- Queue length, record count and records (R213). -/
def recordsBody (length : Nat) (xs : List SettlementRecord) : List Byte :=
  byteOf length :: byteOf xs.length :: (xs.map SettlementRecord.bytes).flatten

/-- Whether n is in 1..4 (R197). -/
def countAccepted (n : Byte) : Bool := decide (1 ≤ n.toNat) && decide (n.toNat ≤ 4)

/-- PEEK-RECORDS: the oldest records, left in the queue (R146). -/
def State.runPeek (n : Byte) (s : State) : State :=
  if countAccepted n then
    s.respond RequestKind.peekRecords.byte .ok (recordsBody s.queue.records.length (s.queue.records.take n.toNat))
  else s.respond RequestKind.peekRecords.byte .badValue [1#8]

/-- TAKE-RECORDS: the oldest records, removed (R147). -/
def State.runTake (n : Byte) (s : State) : State :=
  if countAccepted n then
    let taken := s.queue.records.take n.toNat
    let left := s.queue.records.drop n.toNat
    (s.setQueue { s.queue with records := left }).respond RequestKind.takeRecords.byte .ok
      (recordsBody left.length taken)
  else s.respond RequestKind.takeRecords.byte .badValue [1#8]

/-- The entries read for a PEERS response, in order: up to `left` of them within `room` bytes; one that fails its parity
check is left out, and its id is listed as freed (R87, R213). -/
def readEntries : Nat → Nat → List Entry → List Entry × List Nat
  | _, _, [] => ([], [])
  | 0, _, _ => ([], [])
  | left + 1, room, e :: es =>
    if room < e.bytes.length then ([], [])
    else if e.parity then
      let r := readEntries left (room - e.bytes.length) es
      (e :: r.1, r.2)
    else
      let r := readEntries (left + 1) room es
      (r.1, e.id :: r.2)

/-- Entries of one PEERS response, and the bytes its entries may fill (R213). -/
abbrev peersLimit : Nat := 8
abbrev peersRoom : Nat := 251

/-- PEERS: the entries from position i, those that fail their parity check freed (R87). -/
def State.runPeers (i : Byte) (s : State) : State :=
  if i.toNat ≤ 47 then
    let r := readEntries peersLimit peersRoom (s.peers.entries.drop i.toNat)
    let s := s.setPeers { s.peers with
      entries := s.peers.entries.filter fun e => !(r.2.contains e.id)
      counters := s.peers.counters.discards r.2.length }
    s.respond RequestKind.peers.byte .ok
      (byteOf s.peers.entries.length :: i :: byteOf r.1.length :: (r.1.map Entry.bytes).flatten)
  else s.respond RequestKind.peers.byte .badValue [1#8]

/-- COMMISSION: the checks in order, then a configuration write (R197, R201, R202, R161). The starting interval is checked
against the clock's c as it stands, though SET_NUMBERING may be outstanding (log 55). -/
def State.runCommission (body : List Byte) (s : State) : State :=
  if s.store.commissioning = .locked then s.respond RequestKind.commission.byte .locked []
  else match (Configuration.ofBytes body).firstBad s.clock.c s.reckoning.last with
    | some i => s.respond RequestKind.commission.byte .badValue [byteOf i]
    | none =>
      if s.store.isIdle then
        (s.setStore { s.store with op := some (.eraseConfig body 1) }).awaitBlock
      else s.respond RequestKind.commission.byte .busy []

/-- LOCK: the checks in order, then a lock write (R197, R203, R163). -/
def State.runLock (s : State) : State :=
  match s.store.commissioning with
  | .fresh => s.respond RequestKind.lock.byte .notCommissioned []
  | .locked => s.respond RequestKind.lock.byte .locked []
  | .commissioned =>
    if !s.store.isIdle then s.respond RequestKind.lock.byte .busy []
    else match s.store.lock, s.store.working with
      | .blank, some w => (s.setStore { s.store with op := some (.programLock w.check) }).awaitBlock
      | _, _ => s.respond RequestKind.lock.byte .storeFailed []

/-- CLOSE-PERIOD: the period closed and a checkpoint requested (R204, R139, R142). -/
def State.runClosePeriod (s : State) : State :=
  if s.store.commissioning = .fresh then s.respond RequestKind.closePeriod.byte .notCommissioned []
  else if s.account.parity then
    let s := s.closeAccount
    (s.respond RequestKind.closePeriod.byte .ok
      (beBytes 4 s.account.ledger.period ++ beBytes 4 s.account.ledger.opening)).request
  else s.abortRequest

/-- RESTART-BLOCK: a LINE or SENSE restart (R191, R205); the operating state says whether SENSE stays HALTED (log 54). -/
def State.runRestartBlock (selector : Byte) (s : State) : State :=
  match BlockSelector.ofByte selector with
  | some .line => (s.setLink s.link.lineRestart).respond RequestKind.restartBlock.byte .ok []
  | some .sense =>
    (s.setSupply (s.supply.senseRestart (s.supervisor.op = .holdUp))).respond RequestKind.restartBlock.byte .ok []
  | none => s.respond RequestKind.restartBlock.byte .badValue [1#8]

/-- RESTART-NODE: a REQUESTED reset pending and a final checkpoint asked for; no further action while a reset is pending
already (R186, R206). -/
def State.runRestartNode (s : State) : State :=
  let s := s.awaitBlock
  if s.supervisor.resetPending = .none then
    (s.setSupervisor { s.supervisor with resetPending := .requested, finalAwaited := true }).finalRequest
  else s

/-- CLEAR-CAUSE: the cause record cleared (R190, R207). -/
def State.runClearCause (s : State) : State :=
  (s.setSupervisor { s.supervisor with cause := ⟨none, 0, 0, false⟩ }).respond RequestKind.clearCause.byte .ok []

/-- The execution of a held request by its kind (R197); an unknown kind is never held (R196). -/
def State.execute (x : Request) (s : State) : State :=
  let arg := x.body.getD 0 0#8
  match RequestKind.ofByte x.kind with
  | some .status => s.runStatus
  | some .account => s.runAccount
  | some .peekRecords => s.runPeek arg
  | some .takeRecords => s.runTake arg
  | some .peers => s.runPeers arg
  | some .commission => s.runCommission x.body
  | some .lock => s.runLock
  | some .closePeriod => s.runClosePeriod
  | some .restartBlock => s.runRestartBlock arg
  | some .restartNode => s.runRestartNode
  | some .clearCause => s.runClearCause
  | none => s

/-- HELD_REQUEST_EXECUTION: at the end of START a request held since START is executed (R209). -/
def execHeldRequestExecution (s : State) : Host.Outcome State Fault Refusal :=
  s.whenPowered fun s =>
    if s.port.heldDue then
      let s := s.setPort { s.port with heldDue := false }
      match s.port.held with
      | some x => if s.port.state = .executing ∧ ¬ s.port.begun then s.execute x else s
      | none => s
    else s

/-- A request of the collector: in EXECUTING the one held and not begun is executed; in WAIT the request arrives whole,
and is held in START, executed in RUN and HOLD-UP; otherwise there is no occasion (R197, R209, log 18). -/
def State.serve (kind : RequestKind) (body : List Byte) (f : State → State) (s : State) : State :=
  match s.port.state with
  | .executing =>
    if s.port.held = some ⟨kind.byte, body⟩ ∧ ¬ s.port.begun ∧ s.supervisor.op ≠ .start then f s else s
  | .wait =>
    let s := s.setPort { s.port with state := .executing, held := some ⟨kind.byte, body⟩, begun := false }
    if s.supervisor.op = .start then s else f s
  | .receiving => s
  | .responding => s

/-- STATUS (R199). -/
def execStatus (s : State) : Host.Outcome State Fault Refusal := s.whenPowered (State.serve .status [] State.runStatus)

/-- ACCOUNT (R144, R200). -/
def execAccount (s : State) : Host.Outcome State Fault Refusal := s.whenPowered (State.serve .account [] State.runAccount)

/-- PEEK-RECORDS n (R146). -/
def execPeekRecords (n : Byte) (s : State) : Host.Outcome State Fault Refusal :=
  s.whenPowered (State.serve .peekRecords [n] (State.runPeek n))

/-- TAKE-RECORDS n (R147). -/
def execTakeRecords (n : Byte) (s : State) : Host.Outcome State Fault Refusal :=
  s.whenPowered (State.serve .takeRecords [n] (State.runTake n))

/-- PEERS i (R87). -/
def execPeers (i : Byte) (s : State) : Host.Outcome State Fault Refusal :=
  s.whenPowered (State.serve .peers [i] (State.runPeers i))

/-- COMMISSION; a body of another length is MALFORMED (R196, R201, R202). -/
def execCommission (body : List Byte) (s : State) : Host.Outcome State Fault Refusal :=
  s.whenPowered fun s =>
    if body.length = RequestKind.commission.bodyLength then s.serve .commission body (State.runCommission body)
    else if s.port.state = .wait then s.malformed [0x5A#8, RequestKind.commission.byte]
    else s

/-- LOCK (R163, R203). -/
def execLock (s : State) : Host.Outcome State Fault Refusal := s.whenPowered (State.serve .lock [] State.runLock)

/-- CLOSE-PERIOD (R139, R204). -/
def execClosePeriod (s : State) : Host.Outcome State Fault Refusal :=
  s.whenPowered (State.serve .closePeriod [] State.runClosePeriod)

/-- RESTART-BLOCK (R191, R205). -/
def execRestartBlock (selector : Byte) (s : State) : Host.Outcome State Fault Refusal :=
  s.whenPowered (State.serve .restartBlock [selector] (State.runRestartBlock selector))

/-- RESTART-NODE (R186, R206). -/
def execRestartNode (s : State) : Host.Outcome State Fault Refusal :=
  s.whenPowered (State.serve .restartNode [] State.runRestartNode)

/-- CLEAR-CAUSE (R190, R207). -/
def execClearCause (s : State) : Host.Outcome State Fault Refusal :=
  s.whenPowered (State.serve .clearCause [] State.runClearCause)

end Sys2Proof.Machine
end

