-- ==== Sys2Proof/Machine/Dispatch.lean ====
section
/-! DEFINITION. One arm per command: each is one direct call of its meaning. -/

namespace Sys2Proof.Machine

/-- A command's effect on everything but the queue of waiting commands. -/
def exec (i : Instr) (s : State) : Host.Outcome State Fault Refusal :=
  match i with
  | .pulse ch => Sys2Proof.Machine.execPulse ch s
  | .holdOffExpiry ch => Sys2Proof.Machine.execHoldOffExpiry ch s
  | .boundary => Sys2Proof.Machine.execBoundary s
  | .boundarySnapshot => Sys2Proof.Machine.execBoundarySnapshot s
  | .listenWindowExpiry => Sys2Proof.Machine.execListenWindowExpiry s
  | .jumpRingHandover => Sys2Proof.Machine.execJumpRingHandover s
  | .preJumpMark => Sys2Proof.Machine.execPreJumpMark s
  | .peerTableJump => Sys2Proof.Machine.execPeerTableJump s
  | .cutShortInstruction => Sys2Proof.Machine.execCutShortInstruction s
  | .supplyJumpHandover => Sys2Proof.Machine.execSupplyJumpHandover s
  | .setNumbering => Sys2Proof.Machine.execSetNumbering s
  | .commissioningCut => Sys2Proof.Machine.execCommissioningCut s
  | .receivedByte b => Sys2Proof.Machine.execReceivedByte b s
  | .framingError => Sys2Proof.Machine.execFramingError s
  | .stallCheckExpiry => Sys2Proof.Machine.execStallCheckExpiry s
  | .rxdBreak => Sys2Proof.Machine.execRxdBreak s
  | .rxdRisingEdge => Sys2Proof.Machine.execRxdRisingEdge s
  | .copyScheduleBuild => Sys2Proof.Machine.execCopyScheduleBuild s
  | .copyDue => Sys2Proof.Machine.execCopyDue s
  | .clrAsserted level => Sys2Proof.Machine.execClrAsserted level s
  | .deferLimitExpiry => Sys2Proof.Machine.execDeferLimitExpiry s
  | .lastByteSent => Sys2Proof.Machine.execLastByteSent s
  | .echoWindowExpiry => Sys2Proof.Machine.execEchoWindowExpiry s
  | .frameTake => Sys2Proof.Machine.execFrameTake s
  | .peerTableBoundary => Sys2Proof.Machine.execPeerTableBoundary s
  | .peerTableCommissioning => Sys2Proof.Machine.execPeerTableCommissioning s
  | .reckoningInstruction => Sys2Proof.Machine.execReckoningInstruction s
  | .reckoningCommissioning => Sys2Proof.Machine.execReckoningCommissioning s
  | .surFrameStart => Sys2Proof.Machine.execSurFrameStart s
  | .settlingTimerExpiry => Sys2Proof.Machine.execSettlingTimerExpiry s
  | .startEvent => Sys2Proof.Machine.execStartEvent s
  | .conversionComplete sum => Sys2Proof.Machine.execConversionComplete sum s
  | .islAssertion level => Sys2Proof.Machine.execIslAssertion level s
  | .supplyRecordClosure => Sys2Proof.Machine.execSupplyRecordClosure s
  | .supplyCommissioning => Sys2Proof.Machine.execSupplyCommissioning s
  | .checkpointRequest => Sys2Proof.Machine.execCheckpointRequest s
  | .eraseComplete verified => Sys2Proof.Machine.execEraseComplete verified s
  | .slotProgramComplete verified => Sys2Proof.Machine.execSlotProgramComplete verified s
  | .configurationWriteComplete verified => Sys2Proof.Machine.execConfigurationWriteComplete verified s
  | .lockMarkerProgramComplete verified => Sys2Proof.Machine.execLockMarkerProgramComplete verified s
  | .selectionEvent => Sys2Proof.Machine.execSelectionEvent s
  | .startAccumulatorFold => Sys2Proof.Machine.execStartAccumulatorFold s
  | .listenWindowStart => Sys2Proof.Machine.execListenWindowStart s
  | .takingBegins => Sys2Proof.Machine.execTakingBegins s
  | .startEndLim => Sys2Proof.Machine.execStartEndLim s
  | .mnsEdge level => Sys2Proof.Machine.execMnsEdge level s
  | .mainsMeasurementExpiry => Sys2Proof.Machine.execMainsMeasurementExpiry s
  | .linkHoldUpEntry => Sys2Proof.Machine.execLinkHoldUpEntry s
  | .linkHoldUpExit => Sys2Proof.Machine.execLinkHoldUpExit s
  | .converterHalt => Sys2Proof.Machine.execConverterHalt s
  | .converterResettle => Sys2Proof.Machine.execConverterResettle s
  | .outputsHoldUpEntry => Sys2Proof.Machine.execOutputsHoldUpEntry s
  | .outputsHoldUpExit => Sys2Proof.Machine.execOutputsHoldUpExit s
  | .sloAsserted => Sys2Proof.Machine.execSloAsserted s
  | .powerOnLevel => Sys2Proof.Machine.execPowerOnLevel s
  | .mainsReturnPowerUp => Sys2Proof.Machine.execMainsReturnPowerUp s
  | .portReceivedByte b => Sys2Proof.Machine.execPortReceivedByte b s
  | .portFramingError => Sys2Proof.Machine.execPortFramingError s
  | .gapTimerExpiry => Sys2Proof.Machine.execGapTimerExpiry s
  | .responseSent => Sys2Proof.Machine.execResponseSent s
  | .status => Sys2Proof.Machine.execStatus s
  | .account => Sys2Proof.Machine.execAccount s
  | .peekRecords n => Sys2Proof.Machine.execPeekRecords n s
  | .takeRecords n => Sys2Proof.Machine.execTakeRecords n s
  | .peers n => Sys2Proof.Machine.execPeers n s
  | .commission body => Sys2Proof.Machine.execCommission body s
  | .lock => Sys2Proof.Machine.execLock s
  | .closePeriod => Sys2Proof.Machine.execClosePeriod s
  | .restartBlock selector => Sys2Proof.Machine.execRestartBlock selector s
  | .restartNode => Sys2Proof.Machine.execRestartNode s
  | .clearCause => Sys2Proof.Machine.execClearCause s
  | .oneSecondTick => Sys2Proof.Machine.execOneSecondTick s
  | .linkConfigurationWrite => Sys2Proof.Machine.execLinkConfigurationWrite s
  | .limConfigurationWrite => Sys2Proof.Machine.execLimConfigurationWrite s
  | .heldRequestExecution => Sys2Proof.Machine.execHeldRequestExecution s
  | .rxdFallingEdge => Sys2Proof.Machine.execRxdFallingEdge s
  | .sloInactive => Sys2Proof.Machine.execSloInactive s
  | .surGeneratorStep => Sys2Proof.Machine.execSurGeneratorStep s

end Sys2Proof.Machine
end

