-- ==== Sys2Proof/Machine/Elapse.lean ====
section
/-! DEFINITION. One millisecond, which is what a step on an empty queue is (R1, log 3). -/

namespace Sys2Proof.Machine

/-- A stored bit's upset: the item's stored parity no longer agrees (R6, R64, R112, R142, log 12). -/
def State.upset (s : State) : Option ParityItem → State
  | none => s
  | some .importCounter => s.setMeter { s.meter with imp := { s.meter.imp with counterParity := false } }
  | some .exportCounter => s.setMeter { s.meter with exp := { s.meter.exp with counterParity := false } }
  | some .importAccumulator => s.setMeter { s.meter with imp := { s.meter.imp with accumulatorParity := false } }
  | some .exportAccumulator => s.setMeter { s.meter with exp := { s.meter.exp with accumulatorParity := false } }
  | some .snapshot => s.setMeter { s.meter with snapshotParity := false }
  | some .lastReckoned => s.setReckoning { s.reckoning with lastParity := false }
  | some .account => s.setAccount { s.account with parity := false }
  | some (.peerEntry id) =>
    s.setPeers { s.peers with
      entries := s.peers.entries.map fun e => if e.id = id then { e with parity := false } else e }

/-- The link's millisecond timers (R39, R40, R49, R51). -/
def Link.elapse (k : Link) : Link :=
  { k with stall := tickDown k.stall, breakTimer := tickDown k.breakTimer, deferLimit := tickDown k.deferLimit,
           echoWindow := tickDown k.echoWindow }

/-- The settling timer (R115). -/
def SettlingTimer.elapse : SettlingTimer → SettlingTimer
  | .running n => .running (n - 1)
  | .stopped => .stopped
  | .expired => .expired

/-- The time of a powered node: the timebase and every millisecond timer move by one (R1). -/
def State.tickMs (s : State) : State :=
  { s with
    meter := { s.meter with timebase := s.meter.timebase + 1 }
    link := s.link.elapse
    supply := { s.supply with settling := s.supply.settling.elapse }
    port := { s.port with gap := tickDown s.port.gap }
    freeCount := s.freeCount + 1 }

/-- One millisecond: of a powered node, with the upset that falls in it if one does; of a node in power-off, only of the
200 ms measurement (R184). -/
def State.elapse (s : State) : State :=
  if s.supervisor.powered then (s.upset (Config.upset s.freeCount)).tickMs
  else s.setSupervisor { s.supervisor with powerUp := tickDown s.supervisor.powerUp }

end Sys2Proof.Machine
end

