-- ==== Sys2Proof/Machine/Step.lean ====
section
/-! DEFINITION. One step: the command at the front of the queue, or one millisecond on an empty queue. -/

namespace Sys2Proof.Machine

/-- One step of the block. On an empty queue one millisecond passes (DESIGN CHOICE, log 3). -/
def step (s : State) : Host.Outcome State Fault Refusal :=
  match s.pending with
  | [] => .next s.elapse
  | c :: rest => exec c { s with pending := rest }

/-- `s` with the command a word spells put at the front of its queue; no word spells one (log 34). -/
def State.withFetchWord (s : State) (nbits w : Nat) : State :=
  match decodeTableWord nbits w with
  | some c => { s with pending := c :: s.pending }
  | none => s

end Sys2Proof.Machine
end

