-- ==== Sys2Proof/Safety.lean ====
section
/-! DEFINITION. What counts as a safe run, and the bounds every reachable state keeps. -/

namespace Sys2Proof.Safety

open Sys2Proof.Machine

/-- A step that answers a next state: no fault and no refusal. -/
def Goes (s : State) : Prop := ∃ t, step s = .next t

/-- The capacities the manual gives the rings, queues and the table (R9, R45, R60, R127, R145), the ranges of the
household outputs and the write pointer (R150, R151, R167), REQ raised exactly in WAITING and SENDING (R49 to R52), and no
schedule while SUSPENDED (R49, R56). -/
structure Bounded (s : State) : Prop where
  ownRing : s.meter.ring.length ≤ 3
  receive : s.link.queue.length ≤ 8
  table : s.peers.entries.length ≤ 48
  supplyRing : s.supply.ring.length ≤ 3
  settlement : s.queue.records.length ≤ 24
  duty : s.outputs.duty ≤ 1023
  base : s.outputs.base ≤ 255
  extension : s.outputs.extension ≤ 3
  period : s.outputs.period ≤ 3
  position : s.outputs.step ≤ 255
  pointer : s.store.pointer < 32
  req : s.link.req = (s.link.tx == .waiting || s.link.tx == .sending)
  quiet : s.link.tx = .suspended → s.link.schedule = []

/-- The items of an accounting period within their ranges (R135 to R138). -/
structure FiguresInRange (p : PeriodFigures) : Prop where
  balance : -140737488355327 ≤ p.balance ∧ p.balance ≤ 140737488355327
  money : p.credits < 2 ^ 63 ∧ p.charges < 2 ^ 63 ∧ p.levy < 2 ^ 63
  energy : p.soldPeers < 2 ^ 48 ∧ p.soldSurplus < 2 ^ 48 ∧ p.boughtPeers < 2 ^ 48 ∧ p.boughtBackup < 2 ^ 48
  counts : p.pooled < 2 ^ 32 ∧ p.unpooled < 2 ^ 32 ∧ p.lone < 2 ^ 32 ∧ p.cutShort < 2 ^ 32

/-- A closed-period summary within its ranges (R139). -/
structure SummaryInRange (x : Summary) : Prop where
  numbers : x.period < 2 ^ 32 ∧ x.opening < 2 ^ 32 ∧ x.lost < 2 ^ 16
  closing : ∀ k, x.closing = some k → k < 2 ^ 32
  figures : FiguresInRange x.figures

/-- A checkpoint within the ranges of its items (R166, R216). -/
structure CheckpointInRange (x : Checkpoint) : Prop where
  numbers : x.seq < 2 ^ 32 ∧ x.c < 2 ^ 32 ∧ x.ledger.period < 2 ^ 32 ∧ x.ledger.opening < 2 ^ 32
  last : ∀ k, x.last = some k → k < 2 ^ 32
  figures : FiguresInRange x.ledger.figures
  summary : ∀ y, x.ledger.summary = some y → SummaryInRange y

/-! ### What statements name more than once -/

/-- The pending reckonings a jump out of `o` opens where none is pending: old c-2 and old c-1, each holding this input
(R90, R91). -/
def cutShortOpened (o : Nat) (i : Nat → ReckoningInput) : List PendingReckoning :=
  (cutShortIntervals o).map fun j => (PendingReckoning.opened (2 * o) j).take (i j)

/-- The checkpoint record of the state as it stands, with this sequence number and this account (R166). -/
def recordNow (s : State) (seq : Nat) (x : Ledger) : Checkpoint :=
  { seq := seq, tag := s.store.tag.getD 0
    cumExport := s.meter.exp.counter + s.meter.exp.accumulator
    cumImport := s.meter.imp.counter + s.meter.imp.accumulator
    c := s.clock.c, last := s.reckoning.last, ledger := x }

/-- What a ring of three holds once a record has entered: the record last, and where the ring was full the first record of
the lowest interval has left (R9, R127). -/
structure EntersRing {α : Type} (interval : α → Nat) (ring : List α) (x : α) (entered : List α) : Prop where
  room : ring.length < 3 → entered = ring ++ [x]
  full : 3 ≤ ring.length → ∀ before y rest, ring = before ++ y :: rest → (∀ z ∈ ring, interval y ≤ interval z) →
    (∀ z ∈ before, interval y < interval z) → entered = before ++ rest ++ [x]

/-- The position a frame that completes now is stamped with: the clock's, and from the completion of a configuration write
on that of the new numbering, whether or not the clock has taken it (R44, R46; log 8). -/
structure StampPosition (s : State) (c r : Nat) : Prop where
  current : s.store.completions ≤ s.clock.epoch ∨ s.store.working = none → c = s.clock.c ∧ r = s.clock.r
  renumbered : ∀ w, s.store.working = some w → s.clock.epoch < s.store.completions →
    (s.clock.c ≤ w.record.startInterval → c = w.record.startInterval ∧ r = w.record.startRemaining) ∧
    (w.record.startInterval < s.clock.c →
      c = s.clock.c ∧ r = min s.clock.r (intervalLength w.record.lengthCode))

/-- The level of LIM that this balance gives: active below the floor, inactive with no floor and in HOLD-UP (R153,
R154). -/
structure LimLevel (s : State) (balance : Int) (lim : Bool) : Prop where
  evaluated : ∀ w, s.store.working = some w → s.supervisor.op ≠ .holdUp →
    lim = decide (balance < w.record.limitFloor)
  inactive : s.store.working = none ∨ s.supervisor.op = .holdUp → lim = false

/-- What a node reset leaves in the blocks, with the lines at these levels: the items that the reset tables give a value
which is no item of a checkpoint (R14, R33, R58, R84, R112, R131, R148, R155, R176, R209). -/
structure ResetLeaves (p : Pins) (t : State) : Prop where
  start : t.supervisor.op = .start ∧ t.supervisor.powered = true
  channels : ∀ x ∈ [t.meter.imp, t.meter.exp], x.state = .openChannel ∧ x.lastPulse = none ∧ x.rejected = 0 ∧
    x.accumulator = 0
  meter : t.meter.timebase = 0 ∧ t.meter.ring = [] ∧ t.meter.restart = true
  clock : t.clock.r = intervalLength t.clock.lengthCode ∧ t.clock.alignment = .unaligned ∧ t.clock.window = none ∧
    t.clock.farAhead = [] ∧ t.clock.candidate = none ∧ t.clock.jumpCount = 0
  lengthCode : (t.store.working = none → t.clock.lengthCode = 2) ∧
    ∀ w, t.store.working = some w → t.clock.lengthCode = w.record.lengthCode
  receive : t.link.rx = .hunt ∧ t.link.assembly = [] ∧ t.link.queue = []
  transmit : t.link.tx = .idle ∧ t.link.schedule = [] ∧ t.link.elapsed = 0 ∧ t.link.echoReference = none ∧
    t.link.req = false ∧ t.link.counters = ⟨0, 0, 0, 0, 0, 0, 0, 0⟩
  table : t.peers.entries = [] ∧ t.peers.counters = ⟨0, 0, 0, 0, 0, 0, 0, 0, 0, 0⟩
  reckoning : t.reckoning.pending = [] ∧ t.reckoning.noFigure = 0 ∧ t.reckoning.repeats = 0
  converter : t.supply.converter = .settling ∧ t.supply.settling = .running 2000 ∧ t.supply.periodCount = 0 ∧
    t.supply.sequence = 0 ∧ t.supply.flight = none ∧ t.supply.senseFault = false ∧ t.supply.inBandRun = 0 ∧
    t.supply.lastFeeder = none ∧ t.supply.lastReference = none
  supplyRecords : t.supply.openRecord = { sag := 0, swell := 0, island := p.isl, valid := 0 } ∧ t.supply.ring = [] ∧
    t.supply.lastClosed = .grid ∧ t.supply.skipped = 0 ∧ t.supply.refFailures = 0 ∧ t.supply.discarded = 0
  queue : t.queue = { records := [], lost := 0 }
  outputs : t.outputs.held = none ∧ t.outputs.duty = 0 ∧ t.outputs.period = 0 ∧ t.outputs.step = 0 ∧
    t.outputs.base = 0 ∧ t.outputs.extension = 0 ∧ t.outputs.sht = false ∧ t.outputs.lim = false
  store : t.store.op = none ∧ t.store.failed = false ∧ t.store.pending = false ∧ t.store.finalOwed = false ∧
    t.store.counters = ⟨0, 0, 0, 0, 0⟩
  port : t.port.state = .wait ∧ t.port.assembly = [] ∧ t.port.held = none ∧ t.port.response = none ∧
    t.port.gap = none ∧ t.port.discarded = 0
  lines : t.pins = p

/-- The oldest queued frame is a peer's, and the table takes it: the node is powered, taking has begun and the identity
checks pass (R65, R66). -/
structure PeerFrameWaits (s : State) (x : QueueEntry) (rest : List QueueEntry) (f : Frame) : Prop where
  powered : s.supervisor.powered = true
  taking : s.peers.taking = true
  queue : s.link.queue = x :: rest
  frame : f = Frame.ofContent x.content
  identity : ∃ w : Working, s.store.working = some w ∧ f.cooperative = w.record.cooperative ∧
    f.lengthCode = w.record.lengthCode ∧ f.sender ≠ w.record.nodeId
  sender : 1 ≤ f.sender ∧ f.sender ≤ 250

/-- The port after a request that came whole in WAIT has been answered with these body bytes (R198, R213). -/
def answered (p : Port) (x : Request) (body : List Byte) : Port :=
  { p with state := .responding, held := some x, begun := false, assembly := [], gap := none
           response := some (envelope x.kind body) }

/-- The port after another block has ended the request of this kind that waited for it, answered with these body bytes;
a port that does not wait for one is as it was (R197, R198). -/
def waitAnswered (p : Port) (kind : Byte) (body : List Byte) : Port :=
  if p.state = .executing ∧ p.begun = true ∧ p.held.map (·.kind) = some kind then
    { p with state := .responding, begun := false, assembly := [], gap := none
             response := some (envelope kind body) }
  else p

/-- The request of the collector that a command is, as its kind byte and its body (R213). -/
def requestOf : Instr → Option Request
  | .status => some ⟨0x01#8, []⟩
  | .account => some ⟨0x02#8, []⟩
  | .peekRecords n => some ⟨0x03#8, [n]⟩
  | .takeRecords n => some ⟨0x04#8, [n]⟩
  | .peers i => some ⟨0x05#8, [i]⟩
  | .commission body => some ⟨0x06#8, body⟩
  | .lock => some ⟨0x07#8, []⟩
  | .closePeriod => some ⟨0x08#8, []⟩
  | .restartBlock b => some ⟨0x09#8, [b]⟩
  | .restartNode => some ⟨0x0A#8, []⟩
  | .clearCause => some ⟨0x0B#8, []⟩
  | _ => none

/-! ### Where the items of a frame, of the collector's blocks and of a checkpoint stand (R199, R212 to R214, R216) -/

/-- A flag as one bit of a byte. -/
def bitOf (b : Bool) : Nat := if b then 1 else 0

/-- These bytes are the frame of this copy: each field at its offset, and the check over the 24 content bytes (R211,
R212). -/
structure FrameAt (bs : List Byte) (g : Configuration) (ci ri : Nat) (own : OwnRecord) (state : SupplyState)
    (held : Bool) (copy : CopyMark) : Prop where
  size : bs.length = 28
  marks : fieldNat bs 0 1 = 0xC3 ∧ fieldNat bs 1 1 = 24
  identity : fieldNat bs 2 2 = g.cooperative ∧ fieldNat bs 4 1 = g.nodeId ∧ fieldNat bs 5 1 = g.lengthCode
  position : fieldNat bs 6 4 = ci ∧ fieldNat bs 10 2 = ri
  figures : fieldNat bs 12 2 = own.exportWh ∧ fieldNat bs 14 2 = own.importWh ∧
    fieldNat bs 16 4 = own.cumExport.toNat ∧ fieldNat bs 20 4 = own.cumImport.toNat
  statusByte : fieldNat bs 24 1 = state.code + 4 * bitOf held + 8 * bitOf own.saturated + 16 * bitOf own.restarted
  copyByte : fieldNat bs 25 1 = 16 * copy.count + copy.index
  check : fieldBytes bs 26 2 = checkBytes (fieldBytes bs 2 24)

/-- A settlement record within the ranges of its items (R214). -/
structure SettlementInRange (x : SettlementRecord) : Prop where
  interval : x.interval < 2 ^ 32
  band : x.band < 4
  own : x.ownExport ≤ 65535 ∧ x.ownImport ≤ 65535
  village : ∀ v, x.village = some v → v.counted ≤ 49 ∧ v.expected ≤ 49 ∧ v.supply ≤ 3211215 ∧ v.demand ≤ 3211215
  price : ∀ b, x.price = some b → b.matched ≤ 65535 ∧ b.unmatched ≤ 65535 ∧ b.peerPrice ≤ 65535 ∧
    b.secondPrice ≤ 65535 ∧ b.amount ≤ 4294836225 ∧ b.levy ≤ 4294836225
  balance : -140737488355327 ≤ x.balance ∧ x.balance ≤ 140737488355327

/-- These bytes are this settlement record: each field at its offset, in its width (R214). -/
structure SettlementAt (bs : List Byte) (x : SettlementRecord) : Prop where
  size : bs.length = 17 + (if x.village = none then 0 else 10) + (if x.price = none then 0 else 17)
  interval : fieldNat bs 0 4 = x.interval
  band : fieldNat bs 4 1 = x.band
  supplyByte : fieldNat bs 5 1 = x.supplyState.code + 4 * x.source.code
  formByte : fieldNat bs 6 1 = x.mode.code + 4 * (if x.cutShort then 1 else 0) + 8 * x.role.code
    + 32 * (if x.saturated then 1 else 0) + 64 * (if x.village = none then 0 else 1)
    + 128 * (if x.price = none then 0 else 1)
  own : fieldNat bs 7 2 = x.ownExport ∧ fieldNat bs 9 2 = x.ownImport
  village : ∀ v, x.village = some v → fieldNat bs 11 1 = v.counted ∧ fieldNat bs 12 1 = v.expected ∧
    fieldNat bs 13 4 = v.supply ∧ fieldNat bs 17 4 = v.demand
  price : ∀ b o, x.price = some b → o = (if x.village = none then 11 else 21) → fieldNat bs o 2 = b.matched ∧
    fieldNat bs (o + 2) 2 = b.unmatched ∧ fieldNat bs (o + 4) 2 = b.peerPrice ∧
    fieldNat bs (o + 6) 2 = b.secondPrice ∧ fieldNat bs (o + 8) 4 = b.amount ∧
    fieldNat bs (o + 12) 1 = b.direction.code ∧ fieldNat bs (o + 13) 4 = b.levy
  balance : beSigned (bs.drop (bs.length - 6)) = x.balance

/-- A table entry within the ranges of its fields (R61, R62). -/
structure EntryInRange (e : Entry) : Prop where
  small : e.id ≤ 250 ∧ e.age ≤ 255 ∧ e.heard ≤ 65535
  lead : ∀ n, e.lead = some n → -2147483647 ≤ n ∧ n ≤ 2147483647
  anchor : ∀ a, e.anchor = some a → a.interval < 2 ^ 32
  slots : e.slots.length ≤ 3 ∧ ∀ y ∈ e.slots, y.label < 2 ^ 32 ∧ y.exportWh ≤ 65535 ∧ y.importWh ≤ 65535

/-- These bytes are this peer entry: each field at its offset, the optional ones where they are present, then the held
slots in order (R213). -/
structure EntryAt (bs : List Byte) (e : Entry) : Prop where
  size : bs.length = 5 + (if e.lead = none then 0 else 4) + (if e.anchor = none then 0 else 12) + 9 * e.slots.length
  id : fieldNat bs 0 1 = e.id
  flags : fieldNat bs 1 1 = e.state.code + 4 * (if e.restartedSeen then 1 else 0)
    + 8 * (if e.lead = none then 0 else 1) + 16 * (if e.anchor = none then 0 else 1) + 32 * e.slots.length
  age : fieldNat bs 2 1 = e.age
  heard : fieldNat bs 3 2 = e.heard
  lead : ∀ n, e.lead = some n → beSigned (fieldBytes bs 5 4) = n
  anchor : ∀ a o, e.anchor = some a → o = 5 + (if e.lead = none then 0 else 4) → fieldNat bs o 4 = a.interval ∧
    fieldNat bs (o + 4) 4 = a.cumExport.toNat ∧ fieldNat bs (o + 8) 4 = a.cumImport.toNat
  slots : ∀ i y o, e.slots[i]? = some y →
    o = 5 + (if e.lead = none then 0 else 4) + (if e.anchor = none then 0 else 12) + 9 * i →
    fieldNat bs o 4 = y.label ∧
    fieldNat bs (o + 4) 1 = y.status.code + 4 * supplyCode y.supply + 16 * (if y.saturated then 1 else 0)
      + 32 * (if y.senderHeld then 1 else 0) ∧
    fieldNat bs (o + 5) 2 = y.exportWh ∧ fieldNat bs (o + 7) 2 = y.importWh

/-- The items of an accounting period stand in these bytes from this offset on (R144, R213, R216). -/
structure FiguresAt (bs : List Byte) (o : Nat) (p : PeriodFigures) : Prop where
  balance : beSigned (fieldBytes bs o 6) = p.balance
  saturated : fieldNat bs (o + 6) 1 = if p.saturated then 1 else 0
  money : fieldNat bs (o + 7) 8 = p.credits ∧ fieldNat bs (o + 15) 8 = p.charges ∧ fieldNat bs (o + 23) 8 = p.levy
  energy : fieldNat bs (o + 31) 6 = p.soldPeers ∧ fieldNat bs (o + 37) 6 = p.soldSurplus ∧
    fieldNat bs (o + 43) 6 = p.boughtPeers ∧ fieldNat bs (o + 49) 6 = p.boughtBackup
  counts : fieldNat bs (o + 55) 4 = p.pooled ∧ fieldNat bs (o + 59) 4 = p.unpooled ∧ fieldNat bs (o + 63) 4 = p.lone ∧
    fieldNat bs (o + 67) 4 = p.cutShort

/-- The account within the ranges of its items. -/
structure LedgerInRange (a : Ledger) : Prop where
  numbers : a.period < 2 ^ 32 ∧ a.opening < 2 ^ 32
  figures : FiguresInRange a.figures
  summary : ∀ y, a.summary = some y → SummaryInRange y

/-- These 166 bytes are this account and its closed-period summary, in the order of R144 and R139 (R213). -/
structure LedgerAt (bs : List Byte) (a : Ledger) : Prop where
  size : bs.length = 166
  figures : FiguresAt bs 0 a.figures
  numbers : fieldNat bs 71 4 = a.period ∧ fieldNat bs 75 4 = a.opening
  absent : a.summary = none → fieldNat bs 79 1 = 0 ∧ fieldNat bs 80 86 = 0
  summary : ∀ y, a.summary = some y → fieldNat bs 79 1 = 1 ∧ fieldNat bs 80 4 = y.period ∧
    fieldNat bs 84 4 = y.opening ∧ (y.closing = none → fieldNat bs 88 1 = 0 ∧ fieldNat bs 89 4 = 0) ∧
    (∀ k, y.closing = some k → fieldNat bs 88 1 = 1 ∧ fieldNat bs 89 4 = k) ∧ FiguresAt bs 93 y.figures ∧
    fieldNat bs 164 2 = y.lost

/-- These bytes are this checkpoint record: each item at its offset, the account from 23 on, and the check over the 189
bytes before it (R211, R216). -/
structure CheckpointAt (bs : List Byte) (x : Checkpoint) : Prop where
  header : fieldNat bs 0 4 = x.seq ∧ fieldNat bs 4 2 = x.tag.toNat
  counters : fieldNat bs 6 4 = x.cumExport.toNat ∧ fieldNat bs 10 4 = x.cumImport.toNat
  interval : fieldNat bs 14 4 = x.c
  absent : x.last = none → fieldNat bs 18 1 = 0 ∧ fieldNat bs 19 4 = 0
  last : ∀ k, x.last = some k → fieldNat bs 18 1 = 1 ∧ fieldNat bs 19 4 = k
  account : LedgerAt (fieldBytes bs 23 166) x.ledger
  check : fieldBytes bs 189 2 = checkBytes (bs.take 189)

/-- A flag's item: its width and its number (R210). -/
def flagItem (b : Bool) : Nat × Nat := (1, if b then 1 else 0)

/-- An optional item of this width: the presence byte and the value, 0 when absent (R210). -/
def optionItems (width : Nat) : Option Nat → List (Nat × Nat)
  | some v => [(1, 1), (width, v)]
  | none => [(1, 0), (width, 0)]

/-- A slot's items with its sequence number: presence, slot, number, all 0 when absent (R210, R177). -/
def slotItems : Option SlotRef → List (Nat × Nat)
  | some x => [(1, 1), (1, x.slot), (4, x.seq)]
  | none => [(1, 0), (1, 0), (4, 0)]

/-- A channel's items (R199). -/
def channelItems (x : MeterChannel) : List (Nat × Nat) :=
  [(1, x.state.code)] ++ optionItems 4 (x.lastPulse.map BitVec.toNat) ++
  [(2, x.rejected), (4, x.counter.toNat), (4, x.accumulator.toNat)]

/-- The items of the status block with their widths in bytes, in the order of R199 and of the rules it names. The port's
state before its discarded-byte count is log 26. -/
def statusItems (s : State) : List (Nat × Nat) :=
  [(4, s.meter.timebase.toNat)] ++ channelItems s.meter.imp ++ channelItems s.meter.exp ++
  [(4, s.clock.c), (2, s.clock.r), (1, s.clock.lengthCode), (1, s.clock.alignment.code), (2, s.clock.window.getD 0),
    (1, s.clock.farAhead.length), flagItem s.clock.candidate.isSome, (2, s.clock.jumpCount)] ++
  [(1, s.link.rx.code), (1, s.link.tx.code), (1, s.link.queue.length), (1, s.link.schedule.length),
    (2, s.link.counters.good), (2, s.link.counters.checkFailures), (2, s.link.counters.stalls),
    (2, s.link.counters.overruns), (2, s.link.counters.breaks), (2, s.link.counters.sent),
    (2, s.link.counters.missed), (2, s.link.counters.collisions)] ++
  [(1, s.peers.entries.length), (4, s.peers.tableInterval), (2, s.peers.counters.foreign),
    (2, s.peers.counters.duplicate), (2, s.peers.counters.parityDiscards), (2, s.peers.counters.tableFull),
    (2, s.peers.counters.ahead), (2, s.peers.counters.late), (2, s.peers.counters.discordant),
    (2, s.peers.counters.peerRestarts), (2, s.peers.counters.recovered), (2, s.peers.counters.broken)] ++
  optionItems 4 s.reckoning.last ++
  [(1, s.reckoning.pending.length), (2, s.reckoning.noFigure), (2, s.reckoning.repeats)] ++
  [(1, s.supply.converter.code), flagItem s.supply.senseFault, (1, s.supply.inBandRun), (1, s.supply.sequence),
    (1, s.accumulation), (1, s.sensePeriod)] ++
  (match s.supply.lastFeeder with
    | some x => [(1, 1), (2, x.result), (1, x.cls.code), flagItem x.valid]
    | none => [(1, 0), (2, 0), (1, 0), (1, 0)]) ++
  optionItems 2 s.supply.lastReference ++
  [flagItem s.pins.isl, (2, s.supply.openRecord.sag), (2, s.supply.openRecord.swell),
    flagItem s.supply.openRecord.island, (2, s.supply.openRecord.valid), (1, s.supply.ring.length)] ++
  (s.supply.ring.map fun x => [(4, x.interval), (1, x.state.code), (1, x.source.code)]).flatten ++
  [(1, s.supply.lastClosed.code), (2, s.supply.skipped), (2, s.supply.refFailures), (2, s.supply.discarded)] ++
  [(1, s.queue.records.length)] ++ optionItems 4 (s.queue.records.head?.map (·.interval)) ++
  optionItems 4 (s.queue.records.getLast?.map (·.interval)) ++ [(2, s.queue.lost)] ++
  [(2, s.outputs.duty), flagItem s.outputs.sht, flagItem s.outputs.lim] ++
  optionItems 1 (s.outputs.held.map fun h => h.mode.code) ++
  [(1, s.store.commissioning.code), (1, s.store.condition.code), (1, s.store.lock.code), (1, s.store.stateCode),
    flagItem s.store.pending, (1, s.store.pointer), (4, s.store.nextSeq)] ++
  slotItems s.store.newest ++ slotItems s.store.restored ++
  [(2, s.store.counters.written), (2, s.store.counters.programFailures), (2, s.store.counters.eraseFailures),
    (2, s.store.counters.merged), (2, s.store.counters.refused)] ++
  [(1, s.supervisor.op.code), (1, s.supervisor.mains.code), flagItem s.pins.mns, flagItem s.pins.slo,
    (1, s.supervisor.resetPending.code), (1, causeCode s.supervisor.cause.last), (2, s.supervisor.cause.requested),
    (2, s.supervisor.cause.parity), flagItem s.supervisor.cause.duplicateId] ++
  [(1, s.port.state.code), (2, s.port.discarded)]

end Sys2Proof.Safety
end

