-- ==== Sys2Proof/Certificates/Slice0/Obligations.lean ====
section
/-! DEFINITION. The statements for the provers. Each says what its rules say a command or a computation does; where a
result is a whole state, the equation is also the frame: what it does not name is as before. -/

open Sys2Proof Sys2Proof.Machine Sys2Proof.Safety

/-! ### The machine -/

/-- A step takes the command at the front of the queue and runs it on the rest (00_scope.md 5.6). -/
def Obligations.StepTakesTheFrontCommand : Prop :=
  ∀ (i : Instr) (rest : List Instr) (s : State),
    step { s with pending := i :: rest } = exec i { s with pending := rest }

/-- On an empty queue a step of a powered node is one millisecond (R1; that it is so is the model's choice, log 3).
The timebase moves by one; the stall check, the break measurement, the defer limit, the echo window, the gap timer and
the settling timer each count down by one where they run (R39, R40, R49, R51, R115, R195). The clock, the queue, the
outputs, the store, the supervisor and the lines stay as they are. -/
def Obligations.EmptyQueueStepIsOneMillisecond : Prop :=
  ∀ s : State, s.pending = [] → s.supervisor.powered = true →
    ∃ t, step s = .next t ∧ t.meter.timebase = s.meter.timebase + 1 ∧
      t.link = { s.link with
        stall := s.link.stall.map (· - 1), breakTimer := s.link.breakTimer.map (· - 1)
        deferLimit := s.link.deferLimit.map (· - 1), echoWindow := s.link.echoWindow.map (· - 1) } ∧
      t.port = { s.port with gap := s.port.gap.map (· - 1) } ∧
      (∀ n, s.supply.settling = .running n → t.supply = { s.supply with settling := .running (n - 1) }) ∧
      ((∀ n, s.supply.settling ≠ .running n) → t.supply = s.supply) ∧
      t.clock = s.clock ∧ t.queue = s.queue ∧
      t.outputs = s.outputs ∧ t.store = s.store ∧ t.supervisor = s.supervisor ∧ t.pins = s.pins ∧ t.pending = []

/-- Every command answers a next state on every state, and leaves the queue of waiting commands as it is. Conventions
of the model, no rules of the spec: log 1. -/
def Obligations.EveryCommandAnswersAndKeepsTheQueue : Prop :=
  ∀ (i : Instr) (s : State), ∃ t, exec i s = .next t ∧ t.pending = s.pending

/-- The bounds hold right after reset. -/
def Obligations.BoundsHoldAtReset : Prop := Bounded State.reset

/-- Every step keeps the bounds: the rings, queues and table within their capacities, the outputs and the write
pointer within their ranges, REQ raised exactly in WAITING and SENDING, no schedule while SUSPENDED. -/
def Obligations.EveryStepKeepsTheBounds : Prop := ∀ s t : State, Bounded s → step s = .next t → Bounded t

/-- A checkpoint record is 191 bytes with each item at its offset and the check over the bytes before it, and every
item reads back (R210, R211, R216). A place holds a record that passes where its bytes have the record's length, are
not all erased and agree with their check (R157, R159). -/
def Obligations.CheckpointReadsBack : Prop :=
  (∀ x : Checkpoint, CheckpointInRange x →
    x.bytes.length = 191 ∧ (Place.written x.bytes).passing 191 = some x.bytes ∧ Checkpoint.ofBytes x.bytes = x ∧
    CheckpointAt x.bytes x) ∧
  (∀ bs : List Byte, checkpointSeq bs = fieldNat bs 0 4 ∧ checkpointTag bs = BitVec.ofNat 16 (fieldNat bs 4 2)) ∧
  (∀ (p : Place) (size : Nat) (bs : List Byte), p.passing size = some bs ↔
    p = .written bs ∧ bs.length = size ∧ (∃ b ∈ bs, b ≠ 0xFF#8) ∧
      bs.drop (size - 2) = checkBytes (bs.take (size - 2)))

/-- A copy's frame is 28 bytes, each field at its offset with the status and the copy byte bit by bit, and its content
reads back with every field the receiver uses (R212). Its check is that of R211 over the 24 content bytes: the
register starts at 0xFFFF, takes each byte into its upper 8 bits and is shifted eight times, with 0x1021 where a 1
leaves. Multi-byte values stand most significant byte first (R210). -/
def Obligations.FrameReadsBack : Prop :=
  (∀ (g : Configuration) (ci ri : Nat) (own : OwnRecord) (state : SupplyState) (held : Bool) (copy : CopyMark),
    g.cooperative < 2 ^ 16 → g.nodeId < 2 ^ 8 → g.lengthCode < 2 ^ 8 → ci < 2 ^ 32 → ri < 2 ^ 16 →
    own.exportWh < 2 ^ 16 → own.importWh < 2 ^ 16 →
    (frameContent g ci ri own state held copy).length = 24 ∧
    Frame.ofContent (frameContent g ci ri own state held copy) =
      { cooperative := g.cooperative, sender := g.nodeId, lengthCode := g.lengthCode, ci := ci, ri := ri
        exportWh := own.exportWh, importWh := own.importWh, cumExport := own.cumExport, cumImport := own.cumImport
        supply := some state, held := held, saturated := own.saturated, restarted := own.restarted } ∧
    (copy.count < 16 → copy.index < 16 →
      FrameAt (frameBytes (frameContent g ci ri own state held copy)) g ci ri own state held copy)) ∧
  (crc16 [] = 0xFFFF#16 ∧
    (∀ (bs : List Byte) (b : Byte) (register : Nat → Word16),
      register 0 = crc16 bs ^^^ BitVec.ofNat 16 (256 * b.toNat) →
      (∀ i, i < 8 → ((register i).msb = true → register (i + 1) = (register i <<< 1) ^^^ 0x1021#16) ∧
        ((register i).msb = false → register (i + 1) = register i <<< 1)) →
      crc16 (bs ++ [b]) = register 8) ∧
    (∀ bs : List Byte, (checkBytes bs).length = 2 ∧ beNat (checkBytes bs) = (crc16 bs).toNat)) ∧
  (beNat [] = 0 ∧ (∀ (bs : List Byte) (b : Byte), beNat (bs ++ [b]) = 256 * beNat bs + b.toNat) ∧
    (∀ (bs : List Byte) (o n : Nat), fieldBytes bs o n = (bs.drop o).take n ∧
      fieldNat bs o n = beNat (fieldBytes bs o n)) ∧
    ∀ n v : Nat, (beBytes n v).length = n ∧ beNat (beBytes n v) = v % 256 ^ n)

/-- In power-off the blocks are stopped: a pulse, a tick, a received byte, a checkpoint request, an array completion,
a request of the collector and the supervisor's mains measurement change nothing (R184). Conventions of the model, no
rules of the spec: log 1, log 19. -/
def Obligations.PowerOffStopsTheBlocks : Prop :=
  ∀ s : State, s.supervisor.powered = false →
    (∀ ch, exec (.pulse ch) s = .next s) ∧ exec .oneSecondTick s = .next s ∧
    (∀ b, exec (.receivedByte b) s = .next s) ∧ exec .frameTake s = .next s ∧
    exec .checkpointRequest s = .next s ∧ (∀ v, exec (.slotProgramComplete v) s = .next s) ∧
    (∀ b, exec (.portReceivedByte b) s = .next s) ∧ exec .status s = .next s ∧
    exec .mainsMeasurementExpiry s = .next s

/-! ### Meter input block -/

/-- A pulse in HOLD-OFF is rejected: the channel's count moves, saturating, and nothing else (R2). HOLD-OFF ends when
the timebase has reached its end, and on IMPORT not one millisecond before (R2). Conventions of the model, no rules of
the spec: log 4. -/
def Obligations.HoldOffRejectsAndExpires : Prop :=
  (∀ s : State, s.supervisor.powered = true →
    (s.meter.imp.state = .holdOff → exec (.pulse .imp) s = .next { s with meter := { s.meter with
      imp := { s.meter.imp with rejected := min 65535 (s.meter.imp.rejected + 1) } } }) ∧
    (s.meter.exp.state = .holdOff → exec (.pulse .exp) s = .next { s with meter := { s.meter with
      exp := { s.meter.exp with rejected := min 65535 (s.meter.exp.rejected + 1) } } })) ∧
  (∀ s : State, s.supervisor.powered = true →
    (s.meter.imp.state = .holdOff → s.meter.timebase = s.meter.imp.expiry →
      exec (.holdOffExpiry .imp) s = .next { s with meter := { s.meter with
        imp := { s.meter.imp with state := .openChannel } } }) ∧
    (s.meter.exp.state = .holdOff → s.meter.timebase = s.meter.exp.expiry →
      exec (.holdOffExpiry .exp) s = .next { s with meter := { s.meter with
        exp := { s.meter.exp with state := .openChannel } } }) ∧
    (s.meter.imp.state = .holdOff → s.meter.timebase + 1 = s.meter.imp.expiry →
      exec (.holdOffExpiry .imp) s = .next s))

/-- A pulse in OPEN outside START is accepted: its time captured, HOLD-OFF until that time plus the spacing, and the
channel's weight added to its cumulative counter modulo 2^32 (R2, R4). A pulse in OPEN in START is counted in the
START accumulator; the counter stays (R5). The weights and the spacing are the working configuration's, or 1 Wh and 20
ms with none (R3, R160). Conventions of the model, no rules of the spec: log 50. -/
def Obligations.AcceptedPulseIsCounted : Prop :=
  (∀ s : State, s.supervisor.powered = true → s.supervisor.op ≠ .start →
    (s.meter.imp.state = .openChannel → s.meter.imp.counterParity = true →
      exec (.pulse .imp) s = .next { s with meter := { s.meter with imp := { s.meter.imp with
        state := .holdOff, lastPulse := some s.meter.timebase
        expiry := s.meter.timebase + BitVec.ofNat 32 s.spacing
        counter := s.meter.imp.counter + BitVec.ofNat 32 (s.weight .imp) } } }) ∧
    (s.meter.exp.state = .openChannel → s.meter.exp.counterParity = true →
      exec (.pulse .exp) s = .next { s with meter := { s.meter with exp := { s.meter.exp with
        state := .holdOff, lastPulse := some s.meter.timebase
        expiry := s.meter.timebase + BitVec.ofNat 32 s.spacing
        counter := s.meter.exp.counter + BitVec.ofNat 32 (s.weight .exp) } } })) ∧
  (∀ s : State, s.supervisor.powered = true → s.supervisor.op = .start →
    (s.meter.imp.state = .openChannel → s.meter.imp.accumulatorParity = true →
      exec (.pulse .imp) s = .next { s with meter := { s.meter with imp := { s.meter.imp with
        state := .holdOff, lastPulse := some s.meter.timebase
        expiry := s.meter.timebase + BitVec.ofNat 32 s.spacing
        accumulator := s.meter.imp.accumulator + BitVec.ofNat 32 (s.weight .imp) } } }) ∧
    (s.meter.exp.state = .openChannel → s.meter.exp.accumulatorParity = true →
      exec (.pulse .exp) s = .next { s with meter := { s.meter with exp := { s.meter.exp with
        state := .holdOff, lastPulse := some s.meter.timebase
        expiry := s.meter.timebase + BitVec.ofNat 32 s.spacing
        accumulator := s.meter.exp.accumulator + BitVec.ofNat 32 (s.weight .exp) } } })) ∧
  (∀ s : State,
    (∀ w, s.store.working = some w → s.weight .imp = w.record.importWeight ∧ s.weight .exp = w.record.exportWeight ∧
      s.spacing = w.record.spacing) ∧
    (s.store.working = none → s.weight .imp = 1 ∧ s.weight .exp = 1 ∧ s.spacing = 20))

/-- A failed parity check of the import counter that a pulse would be added to makes a PARITY reset: at once with no
operation in flight, else pending (R6, R188). Conventions of the model, no rules of the spec: log 12, log 28. -/
def Obligations.PulseOnFailedParityMakesAReset : Prop :=
  ∀ s : State, s.supervisor.powered = true → s.supervisor.op ≠ .start → s.meter.imp.state = .openChannel →
    s.meter.imp.counterParity = false →
    ∃ t, exec (.pulse .imp) s = .next t ∧
      (s.store.op = none → t.supervisor.op = .start ∧ t.supervisor.cause.last = some .parity ∧
        t.supervisor.cause.parity = min 65535 (s.supervisor.cause.parity + 1) ∧ t.store.array = s.store.array ∧
        ResetLeaves s.pins t) ∧
      (s.store.op ≠ none → t.supervisor.resetPending = .parity ∧ t.supervisor.op = s.supervisor.op ∧
        t.meter.imp.counter = s.meter.imp.counter)

/-- At a boundary both channels are cut at once and the own figure record of k is made from the difference of the cuts,
held at 65,535 with the saturated flag; it enters the ring last, a full ring of three losing its record of the lowest
interval first, and the cut becomes the snapshot (R7, R8, R9). Where the link waits for that record, the same event ends
the wait: it builds the copy schedule, which clears the restart condition if the record carries it, or leaves the
schedule as the link settled it where the node is not in RUN, the transmit side is SUSPENDED or no configuration is held
(R47, R10). Conventions of the model, no rules of the spec: log 6, log 7, log 32, log 58. -/
def Obligations.BoundarySnapshotMakesTheRecord : Prop :=
  ∀ (s : State) (k n : Nat) (a : Machine.Alignment) (rest : List Notice), s.supervisor.powered = true →
    s.store.completions ≤ s.meter.epoch → s.meter.inbox = .boundary k n a s.meter.epoch :: rest →
    s.meter.boundaryOk = true →
    ∃ x m ring, EntersRing OwnRecord.interval s.meter.ring x ring ∧ m = { s.meter with
        inbox := rest, ring := ring
        snapshot := ⟨s.meter.exp.counter + s.meter.exp.accumulator,
          s.meter.imp.counter + s.meter.imp.accumulator⟩ } ∧
      (s.link.awaiting ≠ some k → exec .boundarySnapshot s = .next { s with meter := m }) ∧
      (s.link.awaiting = some k → s.supervisor.op ≠ .run ∨ s.link.tx = .suspended ∨ s.store.working = none →
        exec .boundarySnapshot s = .next { s with meter := m, link := { s.link with awaiting := none } }) ∧
      (∀ w, s.link.awaiting = some k → s.supervisor.op = .run → s.link.tx ≠ .suspended → s.store.working = some w →
        (∀ y ∈ s.meter.ring, y.interval ≠ k) →
        exec .boundarySnapshot s = .next { s with
          meter := { m with restart := false }
          link := { s.link with
            awaiting := none, elapsed := 0, scheduleCount := w.record.copies
            schedule := (List.range w.record.copies).map fun j =>
              ⟨j, dueOffset (intervalLength s.clock.lengthCode) w.record.copies w.record.nodeId n j⟩ } }) ∧
      x.interval = k ∧ x.restarted = s.meter.restart ∧
      x.cumExport = s.meter.exp.counter + s.meter.exp.accumulator ∧
      x.cumImport = s.meter.imp.counter + s.meter.imp.accumulator ∧
      x.exportWh = min 65535 (x.cumExport - s.meter.snapshot.exp).toNat ∧
      x.importWh = min 65535 (x.cumImport - s.meter.snapshot.imp).toNat ∧
      (x.saturated = true ↔ 65535 < (x.cumExport - s.meter.snapshot.exp).toNat ∨
        65535 < (x.cumImport - s.meter.snapshot.imp).toNat)

/-- A completed configuration write cuts without a record, empties the ring and sets the restart condition (R13). The
end of START folds both accumulators into the counters (R5). A boundary or jump notification issued before a write
completed makes no cut, no record and no handover from that completion on, whether or not the block has taken it
(R13). A cut and the fold read both counters and both accumulators with their parity, a boundary the snapshot's too
(R6). Conventions of the model, no rules of the spec: log 6, log 7, log 12, log 52. -/
def Obligations.CommissioningCutAndFold : Prop :=
  ∀ s : State, s.supervisor.powered = true →
    (s.meter.countersOk = true → s.meter.epoch < s.store.completions →
      exec .commissioningCut s = .next { s with meter := { s.meter with
        ring := [], restart := true, epoch := s.store.completions, snapshotParity := true
        snapshot := ⟨s.meter.exp.counter + s.meter.exp.accumulator,
          s.meter.imp.counter + s.meter.imp.accumulator⟩ } }) ∧
    (s.meter.countersOk = true → s.meter.foldDue = true →
      exec .startAccumulatorFold s = .next { s with meter := { s.meter with
        foldDue := false
        imp := { s.meter.imp with counter := s.meter.imp.counter + s.meter.imp.accumulator, accumulator := 0 }
        exp := { s.meter.exp with counter := s.meter.exp.counter + s.meter.exp.accumulator, accumulator := 0 } } }) ∧
    (∀ k n a e rest, e < s.store.completions →
      (s.meter.inbox = .boundary k n a e :: rest →
        exec .boundarySnapshot s = .next { s with meter := { s.meter with inbox := rest } }) ∧
      (s.meter.inbox = .jump k n a e :: rest →
        exec .jumpRingHandover s = .next { s with meter := { s.meter with inbox := rest } })) ∧
    (s.meter.countersOk = true ↔ s.meter.imp.counterParity = true ∧ s.meter.imp.accumulatorParity = true ∧
      s.meter.exp.counterParity = true ∧ s.meter.exp.accumulatorParity = true) ∧
    (s.meter.boundaryOk = true ↔ s.meter.countersOk = true ∧ s.meter.snapshotParity = true)

/-- A jump's handovers. From UNALIGNED the meter input block and supply sense empty their rings, the table frees every
slot and takes the new interval, the unit takes its notification, and nothing is handed to the unit or instructed.
From ALIGNED each also gives the unit its input for the old c - 2 and then the old c - 1: the own figure record or
none held, the supply record or none held, the participant list, and the CUT-SHORT instruction. With nothing pending
and both intervals above the last reckoned one, the unit then holds a pending reckoning of each with that input;
otherwise only the unit, the account, the queue and the outputs can change besides (R12, R82, R90, R91, R92, R129).
Conventions of the model, no rules of the spec: log 6, log 7, log 45. -/
def Obligations.JumpHandovers : Prop :=
  ∀ (s : State) (o n : Nat) (a : Machine.Alignment) (rest : List Notice) (opens : Prop), s.supervisor.powered = true →
    s.reckoning.lastParity = true → s.account.parity = true →
    (opens ↔ s.reckoning.pending = [] ∧ ∀ l, s.reckoning.last = some l → l + 2 < o) →
    (∀ m : Meter, s.store.completions ≤ s.meter.epoch → s.meter.inbox = .jump o n a s.meter.epoch :: rest →
      m = { s.meter with inbox := rest, ring := [] } →
      (a = .unaligned → exec .jumpRingHandover s = .next { s with meter := m }) ∧
      (a = .aligned → opens → exec .jumpRingHandover s = .next { s with
        meter := m
        reckoning := { s.reckoning with
          pending := cutShortOpened o fun j => .own (s.meter.ring.find? fun x => x.interval == j) } }) ∧
      (a = .aligned → ∃ u q acc out, exec .jumpRingHandover s = .next { s with
          meter := m, reckoning := u, queue := q, account := acc, outputs := out } ∧
        State.takeInputs (2 * o)
            ((cutShortIntervals o).map fun j => (j, .own (s.meter.ring.find? fun x => x.interval == j)))
            { s with meter := m } =
          .done { s with meter := m, reckoning := u, queue := q, account := acc, outputs := out })) ∧
    (∀ v : Supply, s.store.completions ≤ s.supply.epoch → s.supply.inbox = .jump o n a s.supply.epoch :: rest →
      v = { s.supply with inbox := rest, ring := [] } →
      (a = .unaligned → exec .supplyJumpHandover s = .next { s with supply := v }) ∧
      (a = .aligned → opens → exec .supplyJumpHandover s = .next { s with
        supply := v
        reckoning := { s.reckoning with
          pending := cutShortOpened o fun j => .supply (s.supply.ring.find? fun x => x.interval == j) } }) ∧
      (a = .aligned → ∃ u q acc out, exec .supplyJumpHandover s = .next { s with
          supply := v, reckoning := u, queue := q, account := acc, outputs := out } ∧
        State.takeInputs (2 * o)
            ((cutShortIntervals o).map fun j => (j, .supply (s.supply.ring.find? fun x => x.interval == j)))
            { s with supply := v } =
          .done { s with supply := v, reckoning := u, queue := q, account := acc, outputs := out })) ∧
    (∀ p : Peers, s.store.completions ≤ s.peers.epoch → s.peers.inbox = .jump o n a s.peers.epoch :: rest →
      (∀ e ∈ s.peers.entries, e.parity = true) →
      p = { s.peers with
        inbox := rest, tableInterval := n, entries := s.peers.entries.map fun e => { e with slots := [] } } →
      (a = .unaligned → exec .peerTableJump s = .next { s with peers := p }) ∧
      (a = .aligned → opens → exec .peerTableJump s = .next { s with
        peers := p
        reckoning := { s.reckoning with pending := cutShortOpened o fun j => .list (listOf s.peers.entries j) } }) ∧
      (a = .aligned → ∃ u q acc out, exec .peerTableJump s = .next { s with
          peers := p, reckoning := u, queue := q, account := acc, outputs := out } ∧
        State.takeInputs (2 * o) ((cutShortIntervals o).map fun j => (j, .list (listOf s.peers.entries j)))
            { s with peers := p } =
          .done { s with peers := p, reckoning := u, queue := q, account := acc, outputs := out })) ∧
    (s.store.completions ≤ s.reckoning.epoch → s.reckoning.inbox = .jump o n a s.reckoning.epoch :: rest →
      (a = .unaligned → exec .cutShortInstruction s = .next { s with
        reckoning := { s.reckoning with inbox := rest } }) ∧
      (a = .aligned → opens → exec .cutShortInstruction s = .next { s with
        reckoning := { s.reckoning with
          inbox := rest, pending := cutShortOpened o fun _ => .instruction .cutShort } }) ∧
      (a = .aligned → ∃ u q acc out, exec .cutShortInstruction s = .next { s with
          reckoning := u, queue := q, account := acc, outputs := out } ∧ u.inbox = rest ∧
        State.takeInputs (2 * o) ((cutShortIntervals o).map fun j => (j, .instruction .cutShort))
            { s with reckoning := { s.reckoning with inbox := rest } } =
          .done { s with reckoning := u, queue := q, account := acc, outputs := out }))

/-! ### Interval clock -/

/-- A tick. One that finds r above 1 decrements r, the listen window and the candidate's age; one that finds r at 1
leaves r and the candidate, decrements the window, and the expiry is due. In both, the link counts while its schedule
holds an entry, and supply sense counts in READY and CONVERTING, a start event falling due at P, the working
configuration's or 10 with none (R16, R48, R116, R121, R160). A tick that finds the expiry still due takes it first,
as BOUNDARY does. Conventions of the model, no rules of the spec: log 9, log 29, log 41, log 57. -/
def Obligations.TickCountsDown : Prop :=
  (∀ s : State, s.supervisor.powered = true → s.clock.expiryDue = false → 1 ≤ s.clock.r →
    ∃ k, exec .oneSecondTick s = .next { s with
        clock := k
        link := { s.link with elapsed := if s.link.schedule = [] then s.link.elapsed else s.link.elapsed + 1 }
        supply :=
          if s.supply.converter = .ready ∨ s.supply.converter = .converting then
            if s.supply.periodCount + 1 < s.sensePeriod then
              { s.supply with periodCount := s.supply.periodCount + 1 }
            else { s.supply with periodCount := 0, startDue := true }
          else s.supply } ∧
      (2 ≤ s.clock.r → k = { s.clock with
        r := s.clock.r - 1, window := s.clock.window.map (· - 1)
        candidate := s.clock.candidate.map fun x => { x with elapsed := x.elapsed + 1 } }) ∧
      (s.clock.r = 1 → k = { s.clock with expiryDue := true, window := s.clock.window.map (· - 1) })) ∧
  (∀ s t : State, s.supervisor.powered = true → s.clock.expiryDue = true → exec .boundary s = .next t →
    exec .oneSecondTick s = exec .oneSecondTick t) ∧
  (∀ s : State, (∀ w, s.store.working = some w → s.sensePeriod = w.record.sensePeriod) ∧
    (s.store.working = none → s.sensePeriod = 10))

/-- The expiry that a tick found with r at 1: c rises by 1, r reloads with L, the far-ahead set and the candidate are
cleared, and six blocks are notified with k, k + 1 and the alignment state (R16, R17). L is 300, 600, 900, 1,800 or
3,600 s for the codes 0 to 4 (R19). Conventions of the model, no rules of the spec: log 6, log 7, log 9. -/
def Obligations.BoundaryAdvancesAndNotifies : Prop :=
  (intervalLength 0 = 300 ∧ intervalLength 1 = 600 ∧ intervalLength 2 = 900 ∧ intervalLength 3 = 1800 ∧
    intervalLength 4 = 3600) ∧
  (∀ s : State, s.supervisor.powered = true → s.clock.expiryDue = true → s.clock.r = 1 →
    exec .boundary s = .next (State.takeBoundary (intervalLength s.clock.lengthCode)
      { s with clock := { s.clock with expiryDue := false } })) ∧
  (∀ (s : State) (r : Nat), s.clock.c < 4294967295 →
    s.takeBoundary r = { s with
      clock := { s.clock with c := s.clock.c + 1, r := r, farAhead := [], candidate := none }
      meter := { s.meter with
        inbox := s.meter.inbox ++ [.boundary s.clock.c (s.clock.c + 1) s.clock.alignment s.clock.epoch] }
      peers := { s.peers with
        inbox := s.peers.inbox ++ [.boundary s.clock.c (s.clock.c + 1) s.clock.alignment s.clock.epoch] }
      reckoning := { s.reckoning with
        inbox := s.reckoning.inbox ++ [.boundary s.clock.c (s.clock.c + 1) s.clock.alignment s.clock.epoch] }
      supply := { s.supply with
        inbox := s.supply.inbox ++ [.boundary s.clock.c (s.clock.c + 1) s.clock.alignment s.clock.epoch] }
      link := { s.link with
        inbox := s.link.inbox ++ [.boundary s.clock.c (s.clock.c + 1) s.clock.alignment s.clock.epoch] }
      store := { s.store with inbox := s.store.inbox ++ [.boundary] } })

/-- The listen window: it starts with L at the end of START on an UNALIGNED clock with a working configuration, and at
0 the clock aligns alone (R21). Conventions of the model, no rules of the spec: log 6, log 56. -/
def Obligations.ListenWindowStartsAndExpires : Prop :=
  ∀ s : State, s.supervisor.powered = true →
    (s.clock.listenDue = true → s.store.working ≠ none → s.clock.alignment = .unaligned →
      exec .listenWindowStart s = .next { s with clock := { s.clock with
        listenDue := false, window := some (intervalLength s.clock.lengthCode) } }) ∧
    (s.clock.listenDue = true → s.store.working = none →
      exec .listenWindowStart s = .next { s with clock := { s.clock with listenDue := false } }) ∧
    (s.clock.window = some 0 →
      exec .listenWindowExpiry s = .next { s with clock := { s.clock with alignment := .aligned, window := none } })

/-- A completed configuration write sets the numbering: the starting values where c is not above them, else c kept and
r held to the new L; UNALIGNED, and the window restarts outside START (R32). The clock holds the c it set for the
blocks that take the completion later. Conventions of the model, no rules of the spec: log 7, log 8, log 52. -/
def Obligations.SetNumberingTakesTheStart : Prop :=
  ∀ (s : State) (w : Working), s.supervisor.powered = true → s.store.working = some w →
    s.clock.epoch < s.store.completions → s.supervisor.op ≠ .start →
    ∃ k, exec .setNumbering s = .next { s with clock := k } ∧
      k.lengthCode = w.record.lengthCode ∧ k.alignment = .unaligned ∧ k.farAhead = [] ∧ k.candidate = none ∧
      k.window = some (intervalLength w.record.lengthCode) ∧ k.jumpCount = s.clock.jumpCount ∧
      k.epoch = s.store.completions ∧ k.completionC = k.c ∧
      (s.clock.c ≤ w.record.startInterval →
        k.c = w.record.startInterval ∧ k.r = w.record.startRemaining) ∧
      (w.record.startInterval < s.clock.c →
        k.c = s.clock.c ∧ k.r = min s.clock.r (intervalLength w.record.lengthCode))

/-- The verdict on a usable input, by the alignment state and the lead against the guard. On an aligned clock, a lead
of 1 up to the guard returns IN-STEP and advances r by a, half the lead rounded up and at most 4 s: r falls by a where
it stays 1 or more, else the boundary is taken at once with r at L + r - a (R23). A lead of -G up to 0 returns IN-STEP
and changes nothing; a lead below -G returns BEHIND and changes nothing, and the peer table marks the sender's entry
DISCORDANT on that verdict (R25). An input with the pre-jump mark, or with a remaining value outside 1..L, returns
NONE and changes nothing (R22). The guard is the working configuration's (R160). -/
def Obligations.VerdictAndAdvance : Prop :=
  (∀ (g lead : Int), 0 ≤ g →
    (-g ≤ lead → lead ≤ g → verdictOf .aligned g lead = .inStep) ∧ (g < lead → verdictOf .aligned g lead = .far) ∧
    (lead < -g → ∀ a, verdictOf a g lead = .behind) ∧ (-g ≤ lead → verdictOf .unaligned g lead = .inStep)) ∧
  (∀ (e : Entry) (lead : Int), (e.judge .behind lead).state = .discordant) ∧
  (∀ (s : State) (i : AlignmentInput) (lead : Int) (a : Nat), s.clock.alignment = .aligned → i.preJump = false →
    1 ≤ i.ri → i.ri ≤ intervalLength s.clock.lengthCode →
    lead = ((i.ci : Int) - i.stampC) * intervalLength s.clock.lengthCode + ((i.stampR : Int) - i.ri) →
    a = min ((lead.toNat + 1) / 2) 4 →
    (0 < lead → lead ≤ s.guardSeconds →
      (a < s.clock.r → s.alignmentInput i =
        (.inStep, lead, { s with clock := { s.clock with r := s.clock.r - a } })) ∧
      (s.clock.r ≤ a → s.alignmentInput i =
        (.inStep, lead, s.takeBoundary (intervalLength s.clock.lengthCode + s.clock.r - a)))) ∧
    (-(s.guardSeconds : Int) ≤ lead → lead ≤ 0 → s.alignmentInput i = (.inStep, lead, s)) ∧
    (lead < -(s.guardSeconds : Int) → s.alignmentInput i = (.behind, lead, s))) ∧
  (∀ (s : State) (i : AlignmentInput), i.preJump = true ∨ i.ri = 0 ∨ intervalLength s.clock.lengthCode < i.ri →
    ∃ lead, s.alignmentInput i = (.none, lead, s)) ∧
  (∀ (s : State) (w : Working), s.store.working = some w → s.guardSeconds = w.record.guardSeconds)

/-- The jump target is the candidate's position carried forward by the elapsed seconds: its remaining value lies in
1..L and the seconds between the two positions are the elapsed count (R27). A jump moves c and r to the target, clears
the far-ahead set and the candidate, counts the jump and notifies six blocks of the old and the new number with the
alignment state from before (R29, R30). A lead above G on an aligned clock returns FAR: a new sender joins the
far-ahead set and the candidate is captured where there is none (R26); the sender that brings the set to three makes
the jump where the target is ahead, else clears set and candidate (R27). On an UNALIGNED clock a lead of -G or more
returns IN-STEP, aligns the clock and stops the window, with a jump first where the lead is positive and the frame's
position ahead; a lead below -G returns BEHIND and changes nothing (R28). G is the working configuration's guard
(R160). Conventions of the model, no rules of the spec: log 6, log 7, log 40. -/
def Obligations.JumpTargetAndJump : Prop :=
  (∀ (length ci ri elapsed : Nat), 0 < length → 1 ≤ ri → ri ≤ length →
    1 ≤ (carryForward length ci ri elapsed).2 ∧ (carryForward length ci ri elapsed).2 ≤ length ∧
    ((carryForward length ci ri elapsed).1 : Int) * length - (carryForward length ci ri elapsed).2 =
      (ci : Int) * length - ri + elapsed) ∧
  (∀ (s : State) (c r : Nat) (n : Notice), c ≤ 4294967295 →
    n = .jump s.clock.c c s.clock.alignment s.clock.epoch →
    s.jump c r = { s with
      clock := { s.clock with
        c := c, r := r, farAhead := [], candidate := none, jumpCount := min 65535 (s.clock.jumpCount + 1)
        jumps := s.clock.jumps + 1 }
      meter := { s.meter with inbox := s.meter.inbox ++ [n] }
      peers := { s.peers with inbox := s.peers.inbox ++ [n] }
      reckoning := { s.reckoning with inbox := s.reckoning.inbox ++ [n] }
      supply := { s.supply with inbox := s.supply.inbox ++ [n] }
      link := { s.link with inbox := s.link.inbox ++ [n] }
      store := { s.store with inbox := s.store.inbox ++ [.jump] } }) ∧
  (∀ (s : State) (i : AlignmentInput) (lead : Int) (x : Candidate) (c r : Nat), s.clock.alignment = .aligned →
    i.preJump = false → 1 ≤ i.ri → i.ri ≤ intervalLength s.clock.lengthCode →
    lead = ((i.ci : Int) - i.stampC) * intervalLength s.clock.lengthCode + ((i.stampR : Int) - i.ri) →
    (s.guardSeconds : Int) < lead →
    (s.clock.candidate = none → x = ⟨i.ci, i.ri, 0⟩) → (∀ y, s.clock.candidate = some y → x = y) →
    (c, r) = carryForward (intervalLength s.clock.lengthCode) x.ci x.ri x.elapsed →
    (i.sender ∈ s.clock.farAhead → s.alignmentInput i =
      (.far, lead, { s with clock := { s.clock with candidate := some x } })) ∧
    (i.sender ∉ s.clock.farAhead → s.clock.farAhead.length < 2 → s.alignmentInput i =
      (.far, lead, { s with clock := { s.clock with
        farAhead := s.clock.farAhead ++ [i.sender], candidate := some x } })) ∧
    (i.sender ∉ s.clock.farAhead → s.clock.farAhead.length = 2 →
      (s.clock.c < c ∨ c = s.clock.c ∧ r < s.clock.r → s.alignmentInput i = (.far, lead, s.jump c r)) ∧
      (¬ (s.clock.c < c ∨ c = s.clock.c ∧ r < s.clock.r) → s.alignmentInput i =
        (.far, lead, { s with clock := { s.clock with farAhead := [], candidate := none } })))) ∧
  (∀ (s t : State) (i : AlignmentInput) (lead : Int), s.clock.alignment = .unaligned → i.preJump = false →
    1 ≤ i.ri → i.ri ≤ intervalLength s.clock.lengthCode →
    lead = ((i.ci : Int) - i.stampC) * intervalLength s.clock.lengthCode + ((i.stampR : Int) - i.ri) →
    (lead < -(s.guardSeconds : Int) → s.alignmentInput i = (.behind, lead, s)) ∧
    (-(s.guardSeconds : Int) ≤ lead →
      (0 < lead ∧ (s.clock.c < i.ci ∨ i.ci = s.clock.c ∧ i.ri < s.clock.r) → t = s.jump i.ci i.ri) →
      (¬ (0 < lead ∧ (s.clock.c < i.ci ∨ i.ci = s.clock.c ∧ i.ri < s.clock.r)) → t = s) →
      s.alignmentInput i =
        (.inStep, lead, { t with clock := { t.clock with alignment := .aligned, window := none } }))) ∧
  (∀ (s : State) (w : Working), s.store.working = some w → s.guardSeconds = w.record.guardSeconds)

/-! ### Carrier link -/

/-- In HUNT a received byte of 0xC3 begins a frame and starts the 10 ms stall check; any other is discarded uncounted
(R37, R39). In FAULT and while SUSPENDED every character is ignored, one with a framing error too (R40, R56). In
RECEIVING, in ECHO too, a length byte of 24 and every byte after it up to the 27th joins the frame and restarts the
stall check; with the transmit side IDLE, WAITING or SENDING, a length byte that is not 24, a framing error and an
expired stall check each discard the frame, counted once (R36, R38, R39, R52). -/
def Obligations.ReceivedBytesAreAssembled : Prop :=
  (∀ s : State, s.supervisor.powered = true → s.link.tx ≠ .suspended →
    (s.link.rx = .hunt → exec (.receivedByte 0xC3#8) s = .next { s with link := { s.link with
      rx := .receiving, assembly := [0xC3#8], stall := some 10 } }) ∧
    (s.link.rx = .hunt → ∀ b, b ≠ 0xC3#8 → exec (.receivedByte b) s = .next s) ∧
    (s.link.rx = .hunt → exec .framingError s = .next s) ∧
    (s.link.rx = .fault → (∀ b, exec (.receivedByte b) s = .next s) ∧ exec .framingError s = .next s)) ∧
  (∀ s : State, s.supervisor.powered = true → s.link.tx = .suspended →
    (∀ b, exec (.receivedByte b) s = .next s) ∧ exec .framingError s = .next s) ∧
  (∀ s : State, s.supervisor.powered = true → s.link.tx ≠ .suspended → s.link.rx = .receiving →
    (s.link.assembly = [0xC3#8] → exec (.receivedByte 24#8) s = .next { s with link := { s.link with
      assembly := [0xC3#8, 24#8], stall := some 10 } }) ∧
    (∀ b, 2 ≤ s.link.assembly.length → s.link.assembly.length < 27 →
      exec (.receivedByte b) s = .next { s with link := { s.link with
        assembly := s.link.assembly ++ [b], stall := some 10 } })) ∧
  (∀ s : State, s.supervisor.powered = true → s.link.tx ≠ .echo → s.link.tx ≠ .suspended → s.link.rx = .receiving →
    (∀ b, s.link.assembly = [0xC3#8] → b ≠ 24#8 →
      exec (.receivedByte b) s = .next { s with link := { s.link with
        rx := .hunt, assembly := [], stall := none
        counters := { s.link.counters with checkFailures := min 65535 (s.link.counters.checkFailures + 1) } } }) ∧
    exec .framingError s = .next { s with link := { s.link with
      rx := .hunt, assembly := [], stall := none
      counters := { s.link.counters with checkFailures := min 65535 (s.link.counters.checkFailures + 1) } } } ∧
    (s.link.stall = some 0 → exec .stallCheckExpiry s = .next { s with link := { s.link with
      rx := .hunt, assembly := [], stall := none
      counters := { s.link.counters with stalls := min 65535 (s.link.counters.stalls + 1) } } }))

/-- A frame completed by its 28th byte while no echo check runs, with the check agreeing, which is not the node's own
copy, is stamped with c and r and queued oldest first with the pre-jump mark clear, or lost as an overrun on a full
queue (R36, R42 to R45). The node's own copy, which completes after its echo check was decided, is discarded without a
count (R43). With the check failing the frame is discarded, counted once (R42). From the completion of a configuration
write on, the stamp is in the new numbering, whether or not the clock has taken it (R46). Conventions of the model, no
rules of the spec: log 8, log 40. -/
def Obligations.GoodFrameIsStampedAndQueued : Prop :=
  ∀ (s : State) (content : List Byte) (b1 b2 : Byte), s.supervisor.powered = true → s.link.tx ≠ .echo →
    s.link.tx ≠ .suspended → s.link.rx = .receiving → content.length = 24 →
    s.link.assembly = 0xC3#8 :: 24#8 :: (content ++ [b1]) →
    ([b1, b2] = checkBytes content → s.link.echoReference ≠ some (frameBytes content) →
      (∀ c r, StampPosition s c r →
        s.link.queue.length < 8 → exec (.receivedByte b2) s = .next { s with link := { s.link with
          rx := .hunt, assembly := [], stall := none
          queue := s.link.queue ++ [⟨content, ⟨c, r, s.clock.jumps, s.store.completions⟩, false⟩]
          counters := { s.link.counters with good := min 65535 (s.link.counters.good + 1) } } }) ∧
      (8 ≤ s.link.queue.length → exec (.receivedByte b2) s = .next { s with link := { s.link with
        rx := .hunt, assembly := [], stall := none
        counters := { s.link.counters with overruns := min 65535 (s.link.counters.overruns + 1) } } })) ∧
    ([b1, b2] = checkBytes content → s.link.echoReference = some (frameBytes content) →
      exec (.receivedByte b2) s = .next { s with link := { s.link with rx := .hunt, assembly := [], stall := none } }) ∧
    ([b1, b2] ≠ checkBytes content → exec (.receivedByte b2) s = .next { s with link := { s.link with
      rx := .hunt, assembly := [], stall := none
      counters := { s.link.counters with checkFailures := min 65535 (s.link.counters.checkFailures + 1) } } })

/-- What decides a copy in ECHO. A good frame equal to the echo reference decides it as sent; it is neither queued nor
counted as good (R43, R52). Any other frame that ends first decides a collision: a good frame that differs, which is
stamped and queued as usual or lost as an overrun on a full queue; a frame whose check fails; a length byte that is not
24; a framing error; a stall, each counted by its own rule (R38, R39, R42, R45, R52). Conventions of the model, no rules
of the spec: log 8, log 40. -/
def Obligations.OwnEchoDecidesTheCopySent : Prop :=
  (∀ (s : State) (content : List Byte) (b1 b2 : Byte), s.supervisor.powered = true → s.link.tx = .echo →
    s.link.rx = .receiving → content.length = 24 → s.link.assembly = 0xC3#8 :: 24#8 :: (content ++ [b1]) →
    ([b1, b2] = checkBytes content → s.link.echoReference = some (frameBytes content) →
      exec (.receivedByte b2) s = .next { s with link := { s.link with
        rx := .hunt, assembly := [], stall := none, tx := .idle, req := false, copy := none, deferLimit := none
        echoWindow := none
        counters := { s.link.counters with sent := min 65535 (s.link.counters.sent + 1) } } }) ∧
    (∀ c r, [b1, b2] = checkBytes content → s.link.echoReference ≠ some (frameBytes content) →
      s.link.queue.length < 8 → StampPosition s c r →
      exec (.receivedByte b2) s = .next { s with link := { s.link with
        rx := .hunt, assembly := [], stall := none, tx := .idle, req := false, copy := none, deferLimit := none
        echoWindow := none
        queue := s.link.queue ++ [⟨content, ⟨c, r, s.clock.jumps, s.store.completions⟩, false⟩]
        counters := { s.link.counters with
          collisions := min 65535 (s.link.counters.collisions + 1)
          good := min 65535 (s.link.counters.good + 1) } } }) ∧
    ([b1, b2] = checkBytes content → s.link.echoReference ≠ some (frameBytes content) → 8 ≤ s.link.queue.length →
      exec (.receivedByte b2) s = .next { s with link := { s.link with
        rx := .hunt, assembly := [], stall := none, tx := .idle, req := false, copy := none, deferLimit := none
        echoWindow := none
        counters := { s.link.counters with
          collisions := min 65535 (s.link.counters.collisions + 1)
          overruns := min 65535 (s.link.counters.overruns + 1) } } }) ∧
    ([b1, b2] ≠ checkBytes content →
      exec (.receivedByte b2) s = .next { s with link := { s.link with
        rx := .hunt, assembly := [], stall := none, tx := .idle, req := false, copy := none, deferLimit := none
        echoWindow := none
        counters := { s.link.counters with
          collisions := min 65535 (s.link.counters.collisions + 1)
          checkFailures := min 65535 (s.link.counters.checkFailures + 1) } } })) ∧
  (∀ s : State, s.supervisor.powered = true → s.link.tx = .echo → s.link.rx = .receiving →
    (∀ b, s.link.assembly = [0xC3#8] → b ≠ 24#8 →
      exec (.receivedByte b) s = .next { s with link := { s.link with
        rx := .hunt, assembly := [], stall := none, tx := .idle, req := false, copy := none, deferLimit := none
        echoWindow := none
        counters := { s.link.counters with
          collisions := min 65535 (s.link.counters.collisions + 1)
          checkFailures := min 65535 (s.link.counters.checkFailures + 1) } } }) ∧
    exec .framingError s = .next { s with link := { s.link with
      rx := .hunt, assembly := [], stall := none, tx := .idle, req := false, copy := none, deferLimit := none
      echoWindow := none
      counters := { s.link.counters with
        collisions := min 65535 (s.link.counters.collisions + 1)
        checkFailures := min 65535 (s.link.counters.checkFailures + 1) } } } ∧
    (s.link.stall = some 0 → exec .stallCheckExpiry s = .next { s with link := { s.link with
      rx := .hunt, assembly := [], stall := none, tx := .idle, req := false, copy := none, deferLimit := none
      echoWindow := none
      counters := { s.link.counters with
        collisions := min 65535 (s.link.counters.collisions + 1)
        stalls := min 65535 (s.link.counters.stalls + 1) } } }))

/-- The line: a falling edge starts the 50 ms measurement; at its end the receive state is FAULT, counted once; the
rising edge returns it to HUNT (R40, R41). With a copy in WAITING, SENDING or ECHO the break counts it missed, in ECHO
too no collision, lowers REQ and leaves the transmit side IDLE with its schedule (R55). Conventions of the model, no
rules of the spec: log 39. -/
def Obligations.BreakAndTheLineEdges : Prop :=
  ∀ s : State, s.supervisor.powered = true →
    (s.pins.rxd = true → s.link.rx ≠ .fault → s.link.tx ≠ .suspended →
      exec .rxdFallingEdge s = .next { s with
        pins := { s.pins with rxd := false }, link := { s.link with breakTimer := some 50 } }) ∧
    (s.link.breakTimer = some 0 → s.link.tx = .idle →
      exec .rxdBreak s = .next { s with link := { s.link with
        rx := .fault, assembly := [], stall := none, breakTimer := none
        counters := { s.link.counters with breaks := min 65535 (s.link.counters.breaks + 1) } } }) ∧
    (s.link.breakTimer = some 0 → s.link.tx = .waiting ∨ s.link.tx = .sending ∨ s.link.tx = .echo →
      exec .rxdBreak s = .next { s with link := { s.link with
        rx := .fault, assembly := [], stall := none, breakTimer := none
        tx := .idle, req := false, copy := none, deferLimit := none, echoWindow := none
        counters := { s.link.counters with
          breaks := min 65535 (s.link.counters.breaks + 1), missed := min 65535 (s.link.counters.missed + 1) } } }) ∧
    (s.link.rx = .fault → exec .rxdRisingEdge s = .next { s with
      pins := { s.pins with rxd := true }
      link := { s.link with rx := .hunt, assembly := [], stall := none, breakTimer := none } })

/-- The due offset of copy j: 5 + j x W + (h_j mod W) with W = floor((0.8 x L - 5) / C); it lies in copy j's own
sub-span, and the last possible offset is at most 0.8 x L - 1 (R48). -/
def Obligations.DueOffsetLiesInItsSubSpan : Prop :=
  ∀ (code copies id c j : Nat), 2 ≤ copies → copies ≤ 4 → j < copies →
    let length := intervalLength code
    let w := (8 * length / 10 - 5) / copies
    dueOffset length copies id c j =
      5 + j * w + ((id * 40503) + (c * 2654) + (j * 977) + 12345) % 65536 % w ∧
    5 + j * w ≤ dueOffset length copies id c j ∧ dueOffset length copies id c j < 5 + (j + 1) * w ∧
    dueOffset length copies id c j + 1 ≤ 8 * length / 10

/-- An ALIGNED boundary notification taken in RUN with the record of k held, the meter input block having taken its
own: the schedule holds the C offsets for the new c, and a restarted record clears the restart condition (R47, R10).
With the snapshot's parity failed nothing is handed over and a PARITY reset follows (R6). Taken before the meter input
block takes its own, it leaves the schedule empty until the record of k is made (R47). The schedule is left empty
where the node is not in RUN, the transmit side is SUSPENDED or no record of k is held (R47). An UNALIGNED one leaves
the schedule empty (R53). Each of them first settles the old schedule: its offsets are removed uncounted, a copy in
WAITING is abandoned, REQ lowered and counted missed, and one in SENDING or ECHO goes on (R53). Conventions of the
model, no rules of the spec: log 6, log 7, log 12, log 32, log 58. -/
def Obligations.ScheduleIsBuiltAtAlignedBoundaries : Prop :=
  ∀ (s : State) (k n : Nat) (rest : List Notice) (settled : Link), s.supervisor.powered = true →
    s.store.completions ≤ s.link.epoch →
    (s.link.tx ≠ .waiting → settled = { s.link with inbox := rest, awaiting := none, schedule := [] }) →
    (s.link.tx = .waiting → settled = { s.link with
      inbox := rest, awaiting := none, schedule := []
      tx := .idle, req := false, copy := none, deferLimit := none, echoWindow := none
      counters := { s.link.counters with missed := min 65535 (s.link.counters.missed + 1) } }) →
    (∀ (x : OwnRecord) (w : Working), s.link.inbox = .boundary k n .aligned s.link.epoch :: rest →
      s.meter.inbox = [] → s.supervisor.op = .run → s.link.tx ≠ .suspended →
      s.meter.ring.find? (fun y => y.interval == k) = some x → s.store.working = some w →
      (s.meter.snapshotParity = true → exec .copyScheduleBuild s = .next { s with
        link := { settled with
          elapsed := 0, scheduleCount := w.record.copies
          schedule := (List.range w.record.copies).map fun j =>
            ⟨j, dueOffset (intervalLength s.clock.lengthCode) w.record.copies w.record.nodeId n j⟩ }
        meter := { s.meter with restart := s.meter.restart && !x.restarted } }) ∧
      (s.meter.snapshotParity = false → s.store.op = none → ∃ t, exec .copyScheduleBuild s = .next t ∧
        t.supervisor.op = .start ∧ t.supervisor.cause.last = some .parity ∧ t.link.schedule = [])) ∧
    (∀ m b e, s.link.inbox = .boundary k n .aligned s.link.epoch :: rest → .boundary k m b e ∈ s.meter.inbox →
      exec .copyScheduleBuild s = .next { s with link := { settled with awaiting := some k } }) ∧
    (s.link.inbox = .boundary k n .aligned s.link.epoch :: rest → (∀ m b e, .boundary k m b e ∉ s.meter.inbox) →
      s.supervisor.op ≠ .run ∨ s.link.tx = .suspended ∨ (∀ y ∈ s.meter.ring, y.interval ≠ k) →
      exec .copyScheduleBuild s = .next { s with link := settled }) ∧
    (s.link.inbox = .boundary k n .unaligned s.link.epoch :: rest →
      exec .copyScheduleBuild s = .next { s with link := settled })

/-- A copy that falls due leaves the schedule. With the transmit side IDLE and the receive side not in FAULT, it
raises REQ and waits up to 20 s, or, with CLR asserted already and the record of c - 1 held, is sent at once, its
frame built as R51 says (R49, R50, R51); with no record of c - 1 held it is missed instead, with REQ lowered and the
transmit side IDLE (R51), and with the snapshot's parity failed a PARITY reset follows (R6). In FAULT it is missed.
For an earlier copy in WAITING, SENDING or ECHO it is missed too, and the earlier copy continues (R49). Conventions of
the model, no rules of the spec: log 10, log 12, log 53. -/
def Obligations.CopyDueWaitsOrIsMissed : Prop :=
  (∀ (s : State) (x : ScheduledCopy) (rest : List ScheduledCopy), s.supervisor.powered = true →
    s.link.schedule = x :: rest → x.offset = s.link.elapsed → s.link.tx = .idle →
    (s.link.rx ≠ .fault → s.pins.clr = false →
      exec .copyDue s = .next { s with link := { s.link with
        schedule := rest, tx := .waiting, req := true, copy := some ⟨s.link.scheduleCount, x.index⟩
        deferLimit := some 20000 } }) ∧
    (∀ own w, s.link.rx ≠ .fault → s.pins.clr = true → 1 ≤ s.clock.c → s.store.working = some w →
      s.meter.ring.find? (fun y => y.interval == s.clock.c - 1) = some own → s.meter.snapshotParity = true →
      ∃ frame, exec .copyDue s = .next { s with link := { s.link with
          schedule := rest, tx := .sending, req := true, copy := some ⟨s.link.scheduleCount, x.index⟩
          deferLimit := none, echoReference := some frame } } ∧
        (s.supply.ring.find? (fun y => y.interval == s.clock.c - 1) = none →
          frame = frameBytes (frameContent w.record s.clock.c s.clock.r own .grid true
            ⟨s.link.scheduleCount, x.index⟩)) ∧
        (∀ y, s.supply.ring.find? (fun y => y.interval == s.clock.c - 1) = some y →
          frame = frameBytes (frameContent w.record s.clock.c s.clock.r own y.state (y.source == .held)
            ⟨s.link.scheduleCount, x.index⟩))) ∧
    (s.link.rx ≠ .fault → s.pins.clr = true →
      s.clock.c = 0 ∨ s.store.working = none ∨ (∀ y ∈ s.meter.ring, y.interval ≠ s.clock.c - 1) →
      exec .copyDue s = .next { s with link := { s.link with
        schedule := rest, tx := .idle, req := false, copy := none, deferLimit := none, echoWindow := none
        counters := { s.link.counters with missed := min 65535 (s.link.counters.missed + 1) } } }) ∧
    (∀ own, s.link.rx ≠ .fault → s.pins.clr = true → 1 ≤ s.clock.c → s.store.working ≠ none →
      s.meter.ring.find? (fun y => y.interval == s.clock.c - 1) = some own → s.meter.snapshotParity = false →
      s.store.op = none → ∃ t, exec .copyDue s = .next t ∧ t.supervisor.op = .start ∧
        t.supervisor.cause.last = some .parity ∧ t.link.echoReference = none) ∧
    (s.link.rx = .fault → exec .copyDue s = .next { s with link := { s.link with
      schedule := rest
      counters := { s.link.counters with missed := min 65535 (s.link.counters.missed + 1) } } })) ∧
  (∀ (s : State) (x : ScheduledCopy) (rest : List ScheduledCopy), s.supervisor.powered = true →
    s.link.schedule = x :: rest → x.offset = s.link.elapsed →
    s.link.tx = .waiting ∨ s.link.tx = .sending ∨ s.link.tx = .echo →
    exec .copyDue s = .next { s with link := { s.link with
      schedule := rest
      counters := { s.link.counters with missed := min 65535 (s.link.counters.missed + 1) } } })

/-- CLR asserted in WAITING with the record of c - 1 held: SENDING, with the frame built from that record, the closed
supply record (GRID and HELD without one) and the clock's c and r, kept as the echo reference (R50, R51). With no
record of c - 1 held the copy is missed, REQ lowered and the transmit side IDLE (R51). With the snapshot's parity
failed nothing is handed over and a PARITY reset follows (R6). Conventions of the model, no rules of the spec: log 10,
log 12, log 53. -/
def Obligations.ClrStartsTheSending : Prop :=
  (∀ (s : State) (mark : CopyMark), s.supervisor.powered = true → s.link.tx = .waiting → s.link.copy = some mark →
    s.clock.c = 0 ∨ s.store.working = none ∨ (∀ y ∈ s.meter.ring, y.interval ≠ s.clock.c - 1) →
    exec (.clrAsserted true) s = .next { s with
      pins := { s.pins with clr := true }
      link := { s.link with
        tx := .idle, req := false, copy := none, deferLimit := none, echoWindow := none
        counters := { s.link.counters with missed := min 65535 (s.link.counters.missed + 1) } } }) ∧
  (∀ (s : State) (mark : CopyMark) (own : OwnRecord) (w : Working), s.supervisor.powered = true →
    s.link.tx = .waiting → s.link.copy = some mark → 1 ≤ s.clock.c → s.store.working = some w →
    s.meter.ring.find? (fun y => y.interval == s.clock.c - 1) = some own →
    (s.meter.snapshotParity = true → ∃ frame, exec (.clrAsserted true) s = .next { s with
        pins := { s.pins with clr := true }
        link := { s.link with
          tx := .sending, copy := some mark, deferLimit := none, echoReference := some frame } } ∧
      (s.supply.ring.find? (fun y => y.interval == s.clock.c - 1) = none →
        frame = frameBytes (frameContent w.record s.clock.c s.clock.r own .grid true mark)) ∧
      (∀ y, s.supply.ring.find? (fun y => y.interval == s.clock.c - 1) = some y →
        frame = frameBytes (frameContent w.record s.clock.c s.clock.r own y.state (y.source == .held) mark))) ∧
    (s.meter.snapshotParity = false → s.store.op = none → ∃ t, exec (.clrAsserted true) s = .next t ∧
      t.supervisor.op = .start ∧ t.supervisor.cause.last = some .parity ∧ t.link.echoReference = none))

/-- The copy's timers: the defer limit's expiry misses the copy and lowers REQ; the last byte's end lowers REQ and
starts the 100 ms echo window; the window's expiry is a collision (R50, R51, R52). -/
def Obligations.CopyTimers : Prop :=
  ∀ s : State, s.supervisor.powered = true →
    (s.link.tx = .waiting → s.link.deferLimit = some 0 →
      exec .deferLimitExpiry s = .next { s with link := { s.link with
        tx := .idle, req := false, copy := none, deferLimit := none, echoWindow := none
        counters := { s.link.counters with missed := min 65535 (s.link.counters.missed + 1) } } }) ∧
    (s.link.tx = .sending →
      exec .lastByteSent s = .next { s with link := { s.link with
        tx := .echo, req := false, echoWindow := some 100 } }) ∧
    (s.link.tx = .echo → s.link.echoWindow = some 0 →
      exec .echoWindowExpiry s = .next { s with link := { s.link with
        tx := .idle, req := false, copy := none, deferLimit := none, echoWindow := none
        counters := { s.link.counters with collisions := min 65535 (s.link.counters.collisions + 1) } } })

/-- A jump and a completed configuration write mark the queued frames pre-jump whose stamps they replace, those
stamped before the jump or the completion, and leave the others' marks as they are; they empty the schedule uncounted;
a transmit side in SENDING or ECHO goes on, and a copy in WAITING is abandoned, counted missed, with REQ lowered (R31,
R44, R46, R54). The jump taken is the latest the clock has made but for those that wait behind it. A boundary or jump
notification issued before a write completed builds no schedule and marks no entry from that completion on (R54).
Conventions of the model, no rules of the spec: log 6, log 7, log 32, log 40, log 52. -/
def Obligations.RenumberingMarksTheQueue : Prop :=
  ∀ (s : State) (k : Link), s.supervisor.powered = true →
    (s.link.tx ≠ .waiting → k = s.link) →
    (s.link.tx = .waiting → k = { s.link with
      tx := .idle, req := false, copy := none, deferLimit := none, echoWindow := none
      counters := { s.link.counters with missed := min 65535 (s.link.counters.missed + 1) } }) →
    (∀ (o n : Nat) (a : Machine.Alignment) (rest : List Notice),
      s.store.completions ≤ s.link.epoch → s.link.inbox = .jump o n a s.link.epoch :: rest →
      exec .preJumpMark s = .next { s with link := { k with
        inbox := rest, schedule := [], awaiting := none
        queue := s.link.queue.map fun x => { x with
          preJump := x.preJump || decide (x.stamp.jumps < s.clock.jumps - jumpsIn rest) } } }) ∧
    (s.link.epoch < s.store.completions →
      exec .linkConfigurationWrite s = .next { s with link := { k with
        epoch := s.store.completions, schedule := [], awaiting := none
        queue := s.link.queue.map fun x => { x with
          preJump := x.preJump || decide (x.stamp.completions < s.store.completions) } } }) ∧
    (∀ k n a e rest, e < s.store.completions →
      (s.link.inbox = .boundary k n a e :: rest →
        exec .copyScheduleBuild s = .next { s with link := { s.link with inbox := rest } }) ∧
      (s.link.inbox = .jump k n a e :: rest →
        exec .preJumpMark s = .next { s with link := { s.link with inbox := rest } })) ∧
    jumpsIn [] = 0 ∧
    (∀ o n a e ns, jumpsIn (.jump o n a e :: ns) = jumpsIn ns + 1 ∧ jumpsIn (.boundary o n a e :: ns) = jumpsIn ns)

/-- HOLD-UP at the link: entry suspends it with REQ lowered, a copy in flight missed, the schedule empty and receiving
in HUNT, and keeps the queue and the echo reference; exit makes it IDLE, with the break measurement started afresh
where RXD is low (R56). Conventions of the model, no rules of the spec: log 6, log 21, log 32. -/
def Obligations.LinkInHoldUp : Prop :=
  ∀ (s : State) (rest : List PowerNotice), s.supervisor.powered = true →
    (s.link.power = .entry :: rest →
      ∃ k, exec .linkHoldUpEntry s = .next { s with link := k } ∧ k.tx = .suspended ∧ k.req = false ∧
        k.schedule = [] ∧ k.rx = .hunt ∧ k.assembly = [] ∧ k.queue = s.link.queue ∧
        k.echoReference = s.link.echoReference ∧
        (s.link.tx = .waiting ∨ s.link.tx = .sending ∨ s.link.tx = .echo → k.counters = { s.link.counters with
          missed := min 65535 (s.link.counters.missed + 1) }) ∧
        (s.link.tx = .idle → k.counters = s.link.counters)) ∧
    (s.link.power = .exit :: rest →
      exec .linkHoldUpExit s = .next { s with link := { s.link with
        tx := .idle, req := false, copy := none, deferLimit := none, echoWindow := none, rx := .hunt,
        assembly := [], stall := none, awaiting := none, power := rest
        breakTimer := if s.pins.rxd = true then none else some 50 } })

/-! ### Peer table -/

/-- A frame of another cooperative, of another interval length code or with a sender id of 0 or above 250, and with no
working configuration every frame, is counted foreign and discarded; one that carries the own id is counted duplicate
and sets the duplicate-id flag (R66, R190). Each leaves the queue (R65). Conventions of the model, no rules of the
spec: log 55. -/
def Obligations.ForeignAndDuplicateFrames : Prop :=
  ∀ (s : State) (x : QueueEntry) (rest : List QueueEntry), s.supervisor.powered = true →
    s.peers.taking = true → s.link.queue = x :: rest →
    ((∀ w, s.store.working = some w → (Frame.ofContent x.content).cooperative ≠ w.record.cooperative ∨
        (Frame.ofContent x.content).lengthCode ≠ w.record.lengthCode ∨ (Frame.ofContent x.content).sender = 0 ∨
        250 < (Frame.ofContent x.content).sender) →
      exec .frameTake s = .next { s with
        link := { s.link with queue := rest }
        peers := { s.peers with
          counters := { s.peers.counters with foreign := min 65535 (s.peers.counters.foreign + 1) } } }) ∧
    (∀ w, s.store.working = some w → (Frame.ofContent x.content).cooperative = w.record.cooperative →
      (Frame.ofContent x.content).lengthCode = w.record.lengthCode →
      (Frame.ofContent x.content).sender = w.record.nodeId → 1 ≤ w.record.nodeId → w.record.nodeId ≤ 250 →
      exec .frameTake s = .next { s with
        link := { s.link with queue := rest }
        peers := { s.peers with
          counters := { s.peers.counters with duplicate := min 65535 (s.peers.counters.duplicate + 1) } }
        supervisor := { s.supervisor with cause := { s.supervisor.cause with duplicateId := true } } })

/-- A peer's frame at the table. The first frame of a peer, with the pre-jump mark and announcing the interval before
the table's, makes an ACTIVE entry with one DIRECT slot and the anchor of that interval, the clock untouched (R61,
R67, R72, R75). A frame with an entry, held or new: unmarked, it hands the clock its alignment input, and the verdict
is applied to the entry (R69); marked, or stamped before a jump or a completed configuration write, it hands none
(R77). The lookup finds the sender's entry, frees one that fails its parity check, and else makes a new one, in a full
table in the place of the SILENT entry of the greatest age, or with none SILENT of such a LEARNING one, ties going to
the lowest id; one considered that fails its parity check is freed instead (R64, R67, R68). A verdict changes lead and
state as R69's table says; the restarted flag discards the anchor and counts one restart (R70). Of a DISCORDANT, AHEAD
or LATE frame the figures are not used, and each is counted (R71, R75). A frame with ci = 0 is LATE and sets no anchor
(R71). On a full table without a victim the frame has no entry, and is counted; unmarked, it hands the clock its
alignment input all the same (R68, R69). Conventions of the model, no rules of the spec: log 27, log 40, log 55. -/
def Obligations.FirstFrameMakesAnActiveEntry : Prop :=
  (∀ (s : State) (x : QueueEntry) (rest : List QueueEntry) (f : Frame), PeerFrameWaits s x rest f →
    (x.preJump = true → f.restarted = false → s.peers.entries = [] → f.ci = s.peers.tableInterval → 1 ≤ f.ci →
      exec .frameTake s = .next { s with
        link := { s.link with queue := rest }
        peers := { s.peers with entries := [
          { id := f.sender, state := .active, age := 0, heard := 1, lead := none, restartedSeen := false
            anchor := some ⟨f.ci - 1, f.cumExport, f.cumImport⟩
            slots := [{ label := f.ci - 1, status := .direct, exportWh := f.exportWh, importWh := f.importWh
                        saturated := f.saturated, supply := f.supply, senderHeld := f.held }]
            parity := true }] } }) ∧
    (∀ (e h : Entry) (verdict : Verdict) (lead : Int) (t : State) (p q : Peers),
      s.peers.lookup f.sender = (some e, q) →
      h = { e with heard := min 65535 (e.heard + 1), age := 0 } →
      (x.preJump = false → s.clock.jumps ≤ x.stamp.jumps → s.store.completions ≤ x.stamp.completions →
        s.store.completions ≤ s.clock.epoch →
        State.alignmentInput ⟨f.sender, f.ci, f.ri, x.stamp.c, x.stamp.r, false⟩
          { s with link := { s.link with queue := rest }, peers := q } = (verdict, lead, t) →
        (f.restarted = true ∧ h.restartedSeen = false → p = { t.peers with
          counters := { t.peers.counters with peerRestarts := min 65535 (t.peers.counters.peerRestarts + 1) } }) →
        (¬ (f.restarted = true ∧ h.restartedSeen = false) → p = t.peers) →
        exec .frameTake s =
          .next { t with peers := p.figures ((h.judge verdict lead).restartFlag f.restarted) f }) ∧
      (x.preJump = true ∨ x.stamp.jumps < s.clock.jumps ∨ x.stamp.completions < s.store.completions ∨
          s.clock.epoch < s.store.completions →
        (f.restarted = true ∧ h.restartedSeen = false → p = { q with
          counters := { q.counters with peerRestarts := min 65535 (q.counters.peerRestarts + 1) } }) →
        (¬ (f.restarted = true ∧ h.restartedSeen = false) → p = q) →
        exec .frameTake s = .next { s with
          link := { s.link with queue := rest }, peers := p.figures (h.restartFlag f.restarted) f })) ∧
    (x.preJump = true → 48 ≤ s.peers.entries.length →
      (∀ y ∈ s.peers.entries, y.parity = true ∧ y.id ≠ f.sender ∧ (y.state = .active ∨ y.state = .discordant)) →
      exec .frameTake s = .next { s with
        link := { s.link with queue := rest }
        peers := { s.peers with
          counters := { s.peers.counters with tableFull := min 65535 (s.peers.counters.tableFull + 1) } } }) ∧
    (∀ (q : Peers) (verdict : Verdict) (lead : Int) (t : State), s.peers.lookup f.sender = (none, q) →
      (x.preJump = false → s.clock.jumps ≤ x.stamp.jumps → s.store.completions ≤ x.stamp.completions →
        s.store.completions ≤ s.clock.epoch →
        State.alignmentInput ⟨f.sender, f.ci, f.ri, x.stamp.c, x.stamp.r, false⟩
          { s with link := { s.link with queue := rest }, peers := q } = (verdict, lead, t) →
        exec .frameTake s = .next t) ∧
      (x.preJump = true ∨ x.stamp.jumps < s.clock.jumps ∨ x.stamp.completions < s.store.completions ∨
          s.clock.epoch < s.store.completions →
        exec .frameTake s = .next { s with link := { s.link with queue := rest }, peers := q }))) ∧
  (∀ (p : Peers) (id : Nat) (st : EntryState) (new : Entry),
    new = { id := id, state := .learning, age := 0, heard := 0, lead := none, restartedSeen := false, anchor := none
            slots := [], parity := true } →
    ((st = .silent ∧ ∃ y ∈ p.entries, y.state = .silent) ∨ (st = .learning ∧ ∀ y ∈ p.entries, y.state ≠ .silent)) →
    (∀ e, p.entries.find? (fun y => y.id == id) = some e → (∀ y ∈ p.entries, y.id = id → y.parity = true) →
      p.lookup id = (some e, p)) ∧
    ((∃ y ∈ p.entries, y.id = id) → (∀ y ∈ p.entries, y.id = id → y.parity = false) → p.entries.length ≤ 48 →
      p.lookup id = (some new, { p with
        entries := p.entries.filter (fun y => y.id != id)
        counters := { p.counters with
          parityDiscards := min 65535 (p.counters.parityDiscards + p.entries.countP (fun y => y.id == id)) } })) ∧
    ((∀ y ∈ p.entries, y.id ≠ id) →
      (p.entries.length < 48 → p.lookup id = (some new, p)) ∧
      (48 ≤ p.entries.length →
        (∀ y ∈ p.entries, y.parity = true ∧ (y.state = .active ∨ y.state = .discordant)) →
        p.lookup id = (none, { p with
          counters := { p.counters with tableFull := min 65535 (p.counters.tableFull + 1) } })) ∧
      (∀ v ∈ p.entries, 48 ≤ p.entries.length → p.entries.Pairwise (fun a b => a.id < b.id) →
        (∀ y ∈ p.entries, y.state = st → y.parity = true) → v.state = st →
        (∀ y ∈ p.entries, y.state = st → y.age < v.age ∨ (y.age = v.age ∧ v.id ≤ y.id)) →
        p.lookup id = (some new, { p with entries := p.entries.filter (fun y => y.id != v.id) })) ∧
      (p.entries.length = 48 → (∃ y ∈ p.entries, y.state = st ∧ y.parity = false) →
        p.lookup id = (some new, { p with
          entries := p.entries.filter (fun y => y.parity || y.state != st)
          counters := { p.counters with
            parityDiscards := min 65535
              (p.counters.parityDiscards + p.entries.countP (fun y => !y.parity && y.state == st)) } })))) ∧
  (∀ (e : Entry) (lead : Int), -2147483648 < lead → lead < 2147483648 →
    e.judge .none lead = e ∧ e.judge .far lead = { e with lead := some lead } ∧
    (e.state ≠ .discordant → e.judge .inStep lead = { e with lead := some lead } ∧
      e.judge .behind lead = { e with lead := some lead, state := .discordant, slots := [], anchor := none }) ∧
    (e.state = .discordant → e.judge .inStep lead = { e with lead := some lead, state := .active } ∧
      e.judge .behind lead = { e with lead := some lead }) ∧
    e.restartFlag true = { e with anchor := none, restartedSeen := true } ∧
    e.restartFlag false = { e with restartedSeen := false }) ∧
  (∀ (p : Peers) (e : Entry) (f : Frame),
    (e.state = .discordant → p.figures e f = { p.put e with
      counters := { p.counters with discordant := min 65535 (p.counters.discordant + 1) } }) ∧
    (e.state ≠ .discordant → f.ci = 0 → p.figures e f = { p.put e with
      counters := { p.counters with late := min 65535 (p.counters.late + 1) } }) ∧
    (e.state ≠ .discordant → p.tableInterval + 1 < f.ci → p.figures e f = { p.put e with
      counters := { p.counters with ahead := min 65535 (p.counters.ahead + 1) } }) ∧
    (e.state ≠ .discordant → 1 ≤ f.ci → f.ci + 1 < p.tableInterval →
      (e.anchor = none ∨ (∃ a, e.anchor = some a ∧ a.interval < f.ci - 1) →
        p.figures e f = { p.put { e with anchor := some ⟨f.ci - 1, f.cumExport, f.cumImport⟩ } with
          counters := { p.counters with late := min 65535 (p.counters.late + 1) } }) ∧
      (∀ a, e.anchor = some a → f.ci - 1 ≤ a.interval → p.figures e f = { p.put e with
        counters := { p.counters with late := min 65535 (p.counters.late + 1) } })))

/-- A frame in the window is filed: its slot is filled DIRECT or replaced, a LEARNING or SILENT entry becomes ACTIVE,
a recovery is counted, and the anchor is moved to a later interval end (R72, R73, R74, R75). A lost interval is
recovered from the next announcement: end value minus figure minus anchor, modulo 2^32, held at 65,535, with the
supply state absent; a difference of 2^31 or more makes the slot BROKEN; where a condition fails, nothing is recovered
(R73, R74). -/
def Obligations.RecoveryByDifference : Prop :=
  (∀ (e : Entry) (f : Frame) (a : Anchor) (c : Nat), e.anchor = some a → 3 ≤ f.ci → a.interval = f.ci - 3 →
    (∀ y ∈ e.slots, y.label ≠ f.ci - 2) → c ≤ f.ci → f.saturated = false →
    let dExport := f.cumExport - BitVec.ofNat 32 f.exportWh - a.cumExport
    let dImport := f.cumImport - BitVec.ofNat 32 f.importWh - a.cumImport
    (dExport.toNat < 2 ^ 31 → dImport.toNat < 2 ^ 31 →
      e.recovery f c = some { label := f.ci - 2, status := .recovered, exportWh := min 65535 dExport.toNat
                              importWh := min 65535 dImport.toNat
                              saturated := decide (65535 < dExport.toNat) || decide (65535 < dImport.toNat)
                              supply := none, senderHeld := false }) ∧
    (2 ^ 31 ≤ dExport.toNat ∨ 2 ^ 31 ≤ dImport.toNat →
      e.recovery f c = some { label := f.ci - 2, status := .broken, exportWh := 0, importWh := 0, saturated := false
                              supply := none, senderHeld := false })) ∧
  (∀ (e : Entry) (f : Frame) (c : Nat), e.anchor = none ∨ (∃ a, e.anchor = some a ∧ a.interval + 3 ≠ f.ci) ∨
      (∃ y ∈ e.slots, y.label + 2 = f.ci) ∨ f.ci < c ∨ f.saturated = true → e.recovery f c = none) ∧
  (∀ (p : Peers) (e : Entry) (f : Frame), e.state ≠ .discordant → 1 ≤ f.ci → f.ci ≤ p.tableInterval + 1 →
    p.tableInterval ≤ f.ci + 1 → ∃ h k, p.figures e f = { p.put h with counters := k } ∧
      h = { e with state := h.state, slots := h.slots, anchor := h.anchor } ∧
      h.state = (if e.state = .learning ∨ e.state = .silent then .active else e.state) ∧
      h.slots.find? (fun y => y.label == f.ci - 1) = some
        { label := f.ci - 1, status := .direct, exportWh := f.exportWh, importWh := f.importWh
          saturated := f.saturated, supply := f.supply, senderHeld := f.held } ∧
      (∀ j, j ≠ f.ci - 1 → j ≠ f.ci - 2 →
        h.slots.find? (fun y => y.label == j) = e.slots.find? (fun y => y.label == j)) ∧
      (e.recovery f p.tableInterval = none → k = p.counters ∧ (2 ≤ f.ci →
        h.slots.find? (fun y => y.label == f.ci - 2) = e.slots.find? (fun y => y.label == f.ci - 2))) ∧
      (∀ z, e.recovery f p.tableInterval = some z → h.slots.find? (fun y => y.label == f.ci - 2) = some z ∧
        (z.status = .recovered → k = { p.counters with recovered := min 65535 (p.counters.recovered + 1) }) ∧
        (z.status = .broken → k = { p.counters with broken := min 65535 (p.counters.broken + 1) })) ∧
      (e.anchor = none ∨ (∃ a, e.anchor = some a ∧ a.interval < f.ci - 1) →
        h.anchor = some ⟨f.ci - 1, f.cumExport, f.cumImport⟩) ∧
      (∀ a, e.anchor = some a → f.ci - 1 ≤ a.interval → h.anchor = some a)) ∧
  (∀ (p : Peers) (h : Entry), (p.put h).entries.find? (fun y => y.id == h.id) = some h ∧
    ∀ id, id ≠ h.id → (p.put h).entries.find? (fun y => y.id == id) = p.entries.find? (fun y => y.id == id))

/-- A boundary at the table. UNALIGNED, entries sound: the slot of k - 2, and any below it, freed, every age up by one,
SILENT at 4 and freed at 255, the table interval the new one, and no list (R62, R78, R80, R81). ALIGNED with k of 2 or
more: the entries that fail their parity are freed and counted, the list of k - 2 over the others goes to the unit, and
then the same freeing and ageing (R79, R80); with nothing pending and k - 2 above the last reckoned interval, a pending
reckoning opens with the list (R91). The list counts the entries whose slot is DIRECT or RECOVERED and expects these and
the ACTIVE ones (R78). Conventions of the model, no rules of the spec: log 6, log 7, log 45. -/
def Obligations.TableAgesAtBoundaries : Prop :=
  (∀ (s : State) (k n : Nat) (rest : List Notice), s.supervisor.powered = true →
    s.store.completions ≤ s.peers.epoch → s.peers.inbox = .boundary k n .unaligned s.peers.epoch :: rest →
    (∀ e ∈ s.peers.entries, e.parity = true) →
    exec .peerTableBoundary s = .next { s with peers := { s.peers with
      inbox := rest, tableInterval := n
      entries := s.peers.entries.filterMap fun e =>
        if e.state = .silent ∧ 254 ≤ e.age then none
        else some { e with
          age := min 255 (e.age + 1), slots := e.slots.filter fun x => decide (k < x.label + 2)
          state := if 3 ≤ e.age then .silent else e.state } } }) ∧
  (∀ (s : State) (k n : Nat) (rest : List Notice) (sound : List Entry) (p : Peers), s.supervisor.powered = true →
    s.store.completions ≤ s.peers.epoch → s.peers.inbox = .boundary k n .aligned s.peers.epoch :: rest → 2 ≤ k →
    s.peers.counters.parityDiscards ≤ 65535 →
    sound = s.peers.entries.filter (fun e => e.parity) →
    p = { s.peers with
      inbox := rest, tableInterval := n
      counters := { s.peers.counters with
        parityDiscards :=
          min 65535 (s.peers.counters.parityDiscards + (s.peers.entries.filter fun e => !e.parity).length) }
      entries := sound.filterMap fun e =>
        if e.state = .silent ∧ 254 ≤ e.age then none
        else some { e with
          age := min 255 (e.age + 1), slots := e.slots.filter fun x => decide (k < x.label + 2)
          state := if 3 ≤ e.age then .silent else e.state } } →
    exec .peerTableBoundary s =
      .next (State.takeInput (2 * k + 1) (k - 2) (.list (listOf sound (k - 2))) { s with peers := p }).run ∧
    (s.reckoning.lastParity = true → s.reckoning.pending = [] → (∀ l, s.reckoning.last = some l → l < k - 2) →
      exec .peerTableBoundary s = .next { s with
        peers := p
        reckoning := { s.reckoning with pending := [{ interval := k - 2, order := 2 * k + 1, kind := none, own := none
                                                      supply := none, list := some (listOf sound (k - 2)) }] } })) ∧
  (∀ (es : List Entry) (j : Nat) (counts : Entry → Slot → Prop),
    (∀ e x, counts e x ↔ e.slots.find? (fun y => y.label == j) = some x ∧
      (x.status = .direct ∨ x.status = .recovered)) →
    (∀ q, q ∈ (listOf es j).counted ↔ ∃ e ∈ es, ∃ x, counts e x ∧
      q = ⟨e.id, x.status, x.exportWh, x.importWh, x.saturated, x.supply, x.senderHeld⟩) ∧
    (∀ e, ((listOf (e :: es) j).expected = (listOf es j).expected + 1 ↔ e.state = .active ∨ ∃ x, counts e x) ∧
      ((listOf (e :: es) j).expected = (listOf es j).expected ↔ ¬ (e.state = .active ∨ ∃ x, counts e x))) ∧
    (listOf [] j).expected = 0)

/-- A completed configuration write empties the table and sets its interval, keeping the counters (R83); outside START
taking begins (R65, R180). A completed configuration write discards every pending reckoning and closes every interval
below c: where c is 1 or more and c - 1 is above the last reckoned interval, that becomes c - 1, else it stays (R111).
That c is the starting interval, or the clock's where that is above it, and once the clock has taken the completion
the one it set (R32). The unit reckons under the new configuration from then on (R99). From the completion on, an
older notification builds no list and changes nothing at the table (R83), and the unit discards the inputs of one it
takes, an instruction counting a repeat (R91, R111). A notification that instructs nothing, UNALIGNED or with no such
interval, changes nothing at the unit, whatever the parity of the last reckoned interval (R89, R90, R112). Conventions
of the model, no rules of the spec: log 6, log 7, log 8, log 31, log 46, log 52. -/
def Obligations.CommissioningAtTableAndReckoning : Prop :=
  (∀ s : State, s.supervisor.powered = true →
    (s.peers.epoch < s.store.completions →
      exec .peerTableCommissioning s = .next { s with peers := { s.peers with
        entries := [], tableInterval := s.completionC, epoch := s.store.completions } }) ∧
    (s.supervisor.op ≠ .start → exec .takingBegins s = .next { s with peers := { s.peers with taking := true } }) ∧
    (∀ k n a e rest, e < s.store.completions →
      (s.peers.inbox = .boundary k n a e :: rest →
        exec .peerTableBoundary s = .next { s with peers := { s.peers with inbox := rest } }) ∧
      (s.peers.inbox = .jump k n a e :: rest →
        exec .peerTableJump s = .next { s with peers := { s.peers with inbox := rest } }))) ∧
  (∀ s : State, s.supervisor.powered = true → s.reckoning.epoch < s.store.completions →
    ∃ l, exec .reckoningCommissioning s = .next { s with reckoning := { s.reckoning with
        pending := [], last := l, inForce := s.store.working.map (·.record), epoch := s.store.completions } } ∧
      (1 ≤ s.completionC → (∀ k, s.reckoning.last = some k → k < s.completionC - 1) →
        l = some (s.completionC - 1)) ∧
      (∀ k, s.reckoning.last = some k → s.completionC - 1 ≤ k → l = s.reckoning.last) ∧
      (s.completionC = 0 → l = s.reckoning.last)) ∧
  (∀ (s : State) (w : Working), s.store.working = some w →
    (s.clock.epoch < s.store.completions →
      (s.clock.c ≤ w.record.startInterval → s.completionC = w.record.startInterval) ∧
      (w.record.startInterval < s.clock.c → s.completionC = s.clock.c)) ∧
    (s.store.completions ≤ s.clock.epoch → s.completionC = s.clock.completionC)) ∧
  (∀ (s : State) (k n e : Nat) (rest : List Notice) (closed : Nat → Prop), s.supervisor.powered = true →
    s.reckoning.lastParity = true → e ≤ s.reckoning.epoch →
    (∀ j, closed j ↔ s.reckoning.epoch < s.store.completions ∨
      (s.reckoning.pending = [] ∧ ∃ l, s.reckoning.last = some l ∧ j ≤ l)) →
    (s.reckoning.inbox = .boundary k n .aligned e :: rest → 2 ≤ k → closed (k - 2) →
      exec .reckoningInstruction s = .next { s with
        meter := { s.meter with ring := s.meter.ring.filter fun x => x.interval != k - 2 }
        supply := { s.supply with ring := s.supply.ring.filter fun x => x.interval != k - 2 }
        reckoning := { s.reckoning with inbox := rest, repeats := min 65535 (s.reckoning.repeats + 1) } }) ∧
    (s.reckoning.inbox = .jump k n .aligned e :: rest →
      (2 ≤ k → closed (k - 2) → closed (k - 1) → exec .cutShortInstruction s = .next { s with
        reckoning := { s.reckoning with inbox := rest, repeats := min 65535 (s.reckoning.repeats + 2) } }) ∧
      (k = 1 → closed 0 → exec .cutShortInstruction s = .next { s with
        reckoning := { s.reckoning with inbox := rest, repeats := min 65535 (s.reckoning.repeats + 1) } }))) ∧
  (∀ (s : State) (k n e : Nat) (a : Machine.Alignment) (rest : List Notice), s.supervisor.powered = true →
    e ≤ s.reckoning.epoch →
    (s.reckoning.inbox = .boundary k n a e :: rest → a = .unaligned ∨ k < 2 →
      exec .reckoningInstruction s = .next { s with reckoning := { s.reckoning with inbox := rest } }) ∧
    (s.reckoning.inbox = .jump k n a e :: rest → a = .unaligned ∨ k = 0 →
      exec .cutShortInstruction s = .next { s with reckoning := { s.reckoning with inbox := rest } }))

/-! ### Reckoning -/

/-- The mode by C, X and Q, and its corner cases: never UNPOOLED at Q = 0, POOLED with C = X for every Q up to 100
(R96). -/
def Obligations.ModeByQuorum : Prop :=
  ∀ c x q : Nat, 1 ≤ c →
    (c = 1 → modeOf c x q = .lone) ∧ (2 ≤ c → c * 100 < q * x → modeOf c x q = .unpooled) ∧
    (2 ≤ c → q * x ≤ c * 100 → modeOf c x q = .pooled) ∧ modeOf c x 0 ≠ .unpooled ∧
    (2 ≤ c → q ≤ 100 → modeOf c c q = .pooled)

/-- Every settlement record carries the interval, the own figures, the saturated and the CUT-SHORT flag (R108), the mode
of C = 1 + counted, X = 1 + expected and the quorum (R95, R96), the supply state and source as resolved from the answer
and the counted peers (R97, R98), the band that the band map gives for the hour of day of the reckoned interval, with
that band's prices, or band 0 and prices 0 with no configuration (R20, R99, R132, R133), the role by the sign of the own
net (R101), and unless LONE the village block (C, X, S, D), S and D the sums of max(n, 0) and max(-n, 0) over the
participants' nets (R100, R104); a price block is absent exactly where the role is IDLE (R107). The energy of a
settlement record with a price block: matched plus unmatched is the magnitude of the own net, matched does not exceed
min(S, D); POOLED, matched is the floored share of M; UNPOOLED or LONE, matched is 0, the whole supply is credited at
the surplus price and the whole demand charged at the backup price of the resolved state; LONE, there is no village
block and min(S, D) is 0 (R103). -/
def Obligations.SharesOfASettlement : Prop :=
  (∀ (s : State) (j : Nat) (kind : ReckoningKind) (own : OwnRecord) (answer : Option SupplyRecord)
    (list : ParticipantList) (x : SettlementRecord) (supply demand : Nat) (nets : List Int),
    x = s.settlement j kind own answer list →
    nets = ((own.exportWh : Int) - own.importWh) :: list.counted.map (fun p => (p.exportWh : Int) - p.importWh) →
    (supply : Int) = (nets.map fun n => max n 0).sum → (demand : Int) = (nets.map fun n => max (-n) 0).sum →
    supplyTotal (netsOf own list) = supply ∧ demandTotal (netsOf own list) = demand ∧
    x.interval = j ∧ x.ownExport = own.exportWh ∧ x.ownImport = own.importWh ∧ x.saturated = own.saturated ∧
    (x.cutShort = true ↔ kind = .cutShort) ∧
    x.mode = modeOf (1 + list.counted.length) (1 + list.expected) s.quorum ∧
    (x.supplyState, x.source) = resolveSupply answer list.counted ∧
    (own.importWh < own.exportWh → x.role = .seller) ∧ (own.exportWh < own.importWh → x.role = .buyer) ∧
    (own.exportWh = own.importWh → x.role = .idle) ∧ (x.price = none ↔ x.role = .idle) ∧
    (x.mode = .lone → x.village = none) ∧
    (x.mode ≠ .lone → x.village = some
      { counted := 1 + list.counted.length, expected := 1 + list.expected, supply := supply, demand := demand }) ∧
    (∀ g length, s.reckoning.inForce = some g → length = intervalLength g.lengthCode →
      s.quorum = g.quorum ∧ s.levy = g.levy ∧
      x.band = g.bandMap.getD (j % (86400 / length) * length / 3600) 0 ∧
      ∀ k, s.price x.band k = g.prices.getD (5 * x.band + k) 0) ∧
    (s.reckoning.inForce = none → x.band = 0 ∧ ∀ k, s.price x.band k = 0)) ∧
  (∀ (s : State) (j : Nat) (kind : ReckoningKind) (own : OwnRecord) (answer : Option SupplyRecord)
    (list : ParticipantList) (x : SettlementRecord) (b : PriceBlock) (supply demand : Nat),
    x = s.settlement j kind own answer list → x.price = some b →
    supply = supplyTotal (netsOf own list) → demand = demandTotal (netsOf own list) →
    b.matched + b.unmatched = ((own.exportWh : Int) - own.importWh).natAbs ∧ b.matched ≤ min supply demand ∧
    (x.mode = .pooled → (x.role = .seller → b.matched = min supply demand * (own.exportWh - own.importWh) / supply) ∧
      (x.role = .buyer → b.matched = min supply demand * (own.importWh - own.exportWh) / demand)) ∧
    (x.mode ≠ .pooled → b.matched = 0 ∧
      (x.role = .seller → b.unmatched = own.exportWh - own.importWh ∧ b.direction = .credit ∧
        b.amount = b.unmatched * s.price x.band 1) ∧
      (x.role = .buyer → b.unmatched = own.importWh - own.exportWh ∧ b.direction = .charge ∧
        b.amount = b.unmatched * s.price x.band (2 + x.supplyState.code))) ∧
    (x.mode = .lone → x.village = none ∧ min supply demand = 0))

/-- The money of a settlement record. A SELLER's peer credit is floor(m x P_peer x (1000 - levy) / 1000), its levy the
rest of m x P_peer, its amount the peer credit plus u x P_surp, a CREDIT with P_surp as second price, and a posting
adds the levy to the levy total; at levy 0 and 1000 and at m = 0 the corners follow (R105). A BUYER's amount is m x
P_peer + u x P_back of the resolved state, a CHARGE with no levy and P_back as second price (R106). -/
def Obligations.AmountsOfASettlement : Prop :=
  ∀ (s : State) (j : Nat) (kind : ReckoningKind) (own : OwnRecord) (answer : Option SupplyRecord)
    (list : ParticipantList) (x : SettlementRecord) (b : PriceBlock) (credit peer second : Nat),
    x = s.settlement j kind own answer list → x.price = some b → s.levy ≤ 1000 → peer = s.price x.band 0 →
    credit = b.matched * peer * (1000 - s.levy) / 1000 →
    (x.role = .seller → second = s.price x.band 1 →
      b.direction = .credit ∧ b.peerPrice = peer ∧ b.secondPrice = second ∧ b.amount = credit + b.unmatched * second ∧
      b.levy = b.matched * peer - credit ∧ credit ≤ b.matched * peer ∧
      (s.post x).account.ledger.figures.levy = min 9223372036854775807 (s.account.ledger.figures.levy + b.levy) ∧
      (s.levy = 0 → credit = b.matched * peer ∧ b.levy = 0) ∧
      (s.levy = 1000 → credit = 0 ∧ b.levy = b.matched * peer) ∧
      (x.mode ≠ .pooled → b.matched = 0 ∧ b.levy = 0 ∧ b.amount = b.unmatched * second)) ∧
    (x.role = .buyer → second = s.price x.band (2 + x.supplyState.code) →
      b.direction = .charge ∧ b.peerPrice = peer ∧ b.secondPrice = second ∧
      b.amount = b.matched * peer + b.unmatched * second ∧ b.levy = 0 ∧
      (x.mode ≠ .pooled → b.amount = (own.importWh - own.exportWh) * second)) ∧
    x.role ≠ .idle ∧
    (own.exportWh ≤ 65535 → own.importWh ≤ 65535 → (∀ k, s.price x.band k ≤ 65535) → b.amount ≤ 4294836225)

/-- An OWN supply answer stands. A HELD one gives way, with source PEER, to the most severe report of the counted
peers, ISLAND above STRAINED above GRID; a slot reports when it is DIRECT with a supply state present and sender-held
clear. With no report the held state stands, HELD (R97). An answer of none held counts as GRID and HELD. -/
def Obligations.SupplyStateIsResolved : Prop :=
  ∀ (k : Nat) (x : SupplyState) (peers : List CountedPeer) (reports : SupplyState → Prop),
    (∀ y, reports y ↔ ∃ p ∈ peers, p.status = .direct ∧ p.supply = some y ∧ p.senderHeld = false) →
    resolveSupply (some ⟨k, x, .own⟩) peers = (x, .own) ∧
    (reports .island → resolveSupply (some ⟨k, x, .held⟩) peers = (.island, .peer)) ∧
    (¬ reports .island → reports .strained → resolveSupply (some ⟨k, x, .held⟩) peers = (.strained, .peer)) ∧
    (¬ reports .island → ¬ reports .strained → reports .grid →
      resolveSupply (some ⟨k, x, .held⟩) peers = (.grid, .peer)) ∧
    ((∀ y, ¬ reports y) → resolveSupply (some ⟨k, x, .held⟩) peers = (x, .held)) ∧
    resolveSupply none peers = resolveSupply (some ⟨k, .grid, .held⟩) peers

/-- An ALIGNED boundary notification instructs k - 2 as REGULAR: with nothing pending and k - 2 above the last
reckoned interval, a pending reckoning opens with the two answers, whose records are released (R89, R91, R92); one
that a later notification opened stays behind it (R91). Conventions of the model, no rules of the spec: log 6, log 7,
log 45. -/
def Obligations.InstructionOpensAReckoning : Prop :=
  ∀ (s : State) (k n : Nat) (rest : List Notice) (p : PendingReckoning), s.supervisor.powered = true → 2 ≤ k →
    s.store.completions ≤ s.reckoning.epoch → s.reckoning.inbox = .boundary k n .aligned s.reckoning.epoch :: rest →
    s.reckoning.lastParity = true →
    (∀ l, s.reckoning.last = some l → l < k - 2) →
    p = { interval := k - 2, order := 2 * k + 1, kind := some .regular
          own := some (s.meter.ring.find? fun x => x.interval == k - 2)
          supply := some (s.supply.ring.find? fun x => x.interval == k - 2), list := none } →
    (s.reckoning.pending = [] →
      exec .reckoningInstruction s = .next { s with
        meter := { s.meter with ring := s.meter.ring.filter fun x => x.interval != k - 2 }
        supply := { s.supply with ring := s.supply.ring.filter fun x => x.interval != k - 2 }
        reckoning := { s.reckoning with inbox := rest, pending := [p] } }) ∧
    (∀ later, s.reckoning.pending = [later] → later.interval ≠ k - 2 → 2 * k + 1 < later.order →
      exec .reckoningInstruction s = .next { s with
        meter := { s.meter with ring := s.meter.ring.filter fun x => x.interval != k - 2 }
        supply := { s.supply with ring := s.supply.ring.filter fun x => x.interval != k - 2 }
        reckoning := { s.reckoning with inbox := rest, pending := [p, later] } })

/-- A reckoning due at or below the last reckoned interval is dropped and counted; one without an own figure advances
the last reckoned interval and is counted, and posts nothing (R93, R94). One made with an own figure advances the last
reckoned interval, posts its record to the account and the queue and hands its results to the outputs, with LIM
evaluated on the new balance unless in HOLD-UP, in one event (R109, R137, R153, R154). The input that comes last makes
the reckoning where none is pending before it, be it the instruction, an own answer, a supply answer or a list, and
with it one behind it that has its inputs already; behind a reckoning that still awaits an input it only waits (R93).
A boundary's instruction with its two answers makes the reckoning whose list came first (R89, R93). A jump's two
inputs come one after the other, that of old c - 2 first (R90). A failed parity check of the last reckoned interval
makes no reckoning and ends in a PARITY reset, at once with no operation of the store in flight (R112, R188). For an
IDLE household the results hold 0 as u, a convention of the model, no rule of the spec: log 49. Conventions of the
model, no rules of the spec: log 47, log 54. -/
def Obligations.DroppedAndNoFigureReckonings : Prop :=
  ∀ (s : State) (j : Nat) (kind : ReckoningKind) (answer : Option SupplyRecord) (list : ParticipantList),
    s.reckoning.lastParity = true →
    (∀ l own, s.reckoning.last = some l → j ≤ l → s.reckon j kind own answer list = .done { s with
      reckoning := { s.reckoning with repeats := min 65535 (s.reckoning.repeats + 1) } }) ∧
    ((∀ l, s.reckoning.last = some l → l < j) → s.reckon j kind none answer list = .done { s with
      reckoning := { s.reckoning with last := some j, noFigure := min 65535 (s.reckoning.noFigure + 1) } }) ∧
    (∀ own x, (∀ l, s.reckoning.last = some l → l < j) → s.account.parity = true →
      x = s.settlement j kind own answer list →
      ∃ o, s.reckon j kind (some own) answer list = .done { s with
          reckoning := { s.reckoning with last := some j }
          account := { s.account with ledger := { s.account.ledger with figures := s.account.ledger.figures.posted x } }
          queue := s.queue.enter { x with balance := (s.account.ledger.figures.posted x).balance }
          outputs := o } ∧
        o = { s.outputs with held := o.held, duty := o.duty, sht := o.sht, lim := o.lim } ∧
        LimLevel s (s.account.ledger.figures.posted x).balance o.lim ∧
        o.held = some { mode := x.mode, supply := supplyTotal (netsOf own list), demand := demandTotal (netsOf own list)
                        role := x.role, unmatched := (x.price.map (·.unmatched)).getD 0 } ∧
        (s.supervisor.op ≠ .holdUp → o.duty = dutyOf o.held ∧ o.sht = shtOf o.held) ∧
        (s.supervisor.op = .holdUp → o.duty = s.outputs.duty ∧ o.sht = s.outputs.sht)) ∧
    (∀ (order k : Nat) (own : Option OwnRecord) (i : ReckoningInput) (ready p : PendingReckoning),
      ready = { interval := j, order := k, kind := some kind, own := some own, supply := some answer
                list := some list } →
      (p = { ready with kind := none } ∧ i = .instruction kind) ∨ (p = { ready with own := none } ∧ i = .own own) ∨
        (p = { ready with supply := none } ∧ i = .supply answer) ∨ (p = { ready with list := none } ∧ i = .list list) →
      (s.reckoning.pending = [p] → s.takeInput order j i =
        State.reckon j kind own answer list { s with reckoning := { s.reckoning with pending := [] } }) ∧
      (∀ (next : PendingReckoning) (kind' : ReckoningKind) (own' : Option OwnRecord) (answer' : Option SupplyRecord)
          (list' : ParticipantList) (t : State),
        next = { next with kind := some kind', own := some own', supply := some answer', list := some list' } →
        s.reckoning.pending = [p, next] →
        State.reckon j kind own answer list { s with reckoning := { s.reckoning with pending := [next] } } = .done t →
        s.takeInput order j i = State.reckon next.interval kind' own' answer' list'
          { t with reckoning := { t.reckoning with pending := [] } }) ∧
      (∀ first : PendingReckoning,
        first.kind = none ∨ first.own = none ∨ first.supply = none ∨ first.list = none → first.interval ≠ j →
        s.reckoning.pending = [first, p] →
        s.takeInput order j i = .done { s with reckoning := { s.reckoning with pending := [first, ready] } })) ∧
    (∀ (k n : Nat) (e : Machine.Alignment) (rest : List Notice) (first : PendingReckoning),
      s.supervisor.powered = true → s.store.completions ≤ s.reckoning.epoch → 2 ≤ k → j = k - 2 → e = .aligned →
      s.reckoning.inbox = .boundary k n e s.reckoning.epoch :: rest →
      first = { interval := j, order := 2 * k + 1, kind := none, own := none, supply := none, list := some list } →
      s.reckoning.pending = [first] →
      exec .reckoningInstruction s = .next (State.reckon j .regular (s.meter.ring.find? fun x => x.interval == j)
        (s.supply.ring.find? fun x => x.interval == j) list { s with
          meter := { s.meter with ring := s.meter.ring.filter fun x => x.interval != j }
          supply := { s.supply with ring := s.supply.ring.filter fun x => x.interval != j }
          reckoning := { s.reckoning with inbox := rest, pending := [] } }).run) ∧
    (∀ (order : Nat) (i : ReckoningInput) (rest : List (Nat × ReckoningInput)) (t : State),
      s.takeInput order j i = .done t → s.takeInputs order ((j, i) :: rest) = t.takeInputs order rest) ∧
    (∀ (order : Nat) (p : PendingReckoning), p = PendingReckoning.opened order j →
      p = { interval := j, order := order, kind := none, own := none, supply := none, list := none } ∧
      p.take (.instruction kind) = { p with kind := some kind } ∧ (∀ own, p.take (.own own) = { p with own := some own }) ∧
      p.take (.supply answer) = { p with supply := some answer } ∧ p.take (.list list) = { p with list := some list }) ∧
    ((Guarded.done s).run = s ∧
      (s.store.op = none → ∃ t, (Guarded.failed s).run = t ∧ t.supervisor.op = .start ∧
        t.supervisor.cause.last = some .parity ∧ ResetLeaves s.pins t) ∧
      (s.store.op ≠ none → (Guarded.failed s).run = { s with
        supervisor := { s.supervisor with resetPending := .parity, finalAwaited := false } }) ∧
      ∀ own u, u = { s with reckoning := { s.reckoning with lastParity := false } } →
        State.reckon j kind own answer list u = .failed u) ∧
    (∀ order, s.takeInputs order [] = .done s) ∧ cutShortIntervals 0 = [] ∧ cutShortIntervals 1 = [0] ∧
    (∀ o, 2 ≤ o → cutShortIntervals o = [o - 2, o - 1])

/-! ### Account, queue and outputs -/

/-- A posting: a CREDIT adds the amount to the balance, held at 2^47 - 1 with the flag set, to the credits total, the
levy to the levy total, m to sold to peers and u to sold as surplus (R135). A CHARGE subtracts the amount, held at
-(2^47 - 1) with the flag set, and adds it to the charges total, m to bought from peers and u to bought as backup; the
levy total stays (R136). Every record is counted by its mode and its CUT-SHORT flag, saturating at 2^32 - 1; one
without a price block changes neither the balance nor any total (R137). The record carries the balance after it and
becomes the newest of the queue, a queue of 24 losing its oldest, counted saturating at 65,535 (R137, R145), and LIM
is evaluated (R137, R153, R154). Conventions of the model, no rules of the spec: log 54, log 55. -/
def Obligations.PostingMovesTheBalance : Prop :=
  (∀ (s : State) (x : SettlementRecord) (f g : PeriodFigures) (y : SettlementRecord),
    f = s.account.ledger.figures → g = (s.post x).account.ledger.figures → y = { x with balance := g.balance } →
    g.pooled = (if x.mode = .pooled then min 4294967295 (f.pooled + 1) else f.pooled) ∧
    g.unpooled = (if x.mode = .unpooled then min 4294967295 (f.unpooled + 1) else f.unpooled) ∧
    g.lone = (if x.mode = .lone then min 4294967295 (f.lone + 1) else f.lone) ∧
    g.cutShort = (if x.cutShort = true then min 4294967295 (f.cutShort + 1) else f.cutShort) ∧
    (x.price = none → g = { f with
      pooled := g.pooled, unpooled := g.unpooled, lone := g.lone, cutShort := g.cutShort }) ∧
    ∃ lim q, s.post x = { s with
        account := { s.account with ledger := { s.account.ledger with figures := g } }
        queue := q, outputs := { s.outputs with lim := lim } } ∧
      LimLevel s g.balance lim ∧ g = f.posted x ∧ q = s.queue.enter y ∧
      (s.queue.records.length < 24 → q = { records := s.queue.records ++ [y], lost := s.queue.lost }) ∧
      (∀ oldest kept, 24 ≤ s.queue.records.length → s.queue.records = oldest :: kept →
        q = { records := kept ++ [y], lost := min 65535 (s.queue.lost + 1) })) ∧
  (∀ (s : State) (x : SettlementRecord) (b : PriceBlock) (f g : PeriodFigures), x.price = some b →
    f = s.account.ledger.figures → g = (s.post x).account.ledger.figures →
    (b.direction = .credit →
      g.balance = min 140737488355327 (f.balance + b.amount) ∧
      g.credits = min 9223372036854775807 (f.credits + b.amount) ∧
      g.levy = min 9223372036854775807 (f.levy + b.levy) ∧
      g.soldPeers = min 281474976710655 (f.soldPeers + b.matched) ∧
      g.soldSurplus = min 281474976710655 (f.soldSurplus + b.unmatched) ∧
      g.charges = f.charges ∧ g.boughtPeers = f.boughtPeers ∧ g.boughtBackup = f.boughtBackup ∧
      (g.saturated = true ↔ f.saturated = true ∨ 140737488355327 < f.balance + b.amount ∨
        9223372036854775807 < f.credits + b.amount)) ∧
    (b.direction = .charge →
      g.balance = max (-140737488355327) (f.balance - b.amount) ∧
      g.charges = min 9223372036854775807 (f.charges + b.amount) ∧ g.levy = f.levy ∧
      g.boughtPeers = min 281474976710655 (f.boughtPeers + b.matched) ∧
      g.boughtBackup = min 281474976710655 (f.boughtBackup + b.unmatched) ∧
      g.credits = f.credits ∧ g.soldPeers = f.soldPeers ∧ g.soldSurplus = f.soldSurplus ∧
      (g.saturated = true ↔ f.saturated = true ∨ f.balance - b.amount < -140737488355327 ∨
        9223372036854775807 < f.charges + b.amount)) ∧
    (s.post x).queue.records.getLast? = some { x with balance := g.balance })

/-- The duty follows the held result, lies in 0..1023, and is 0 unless POOLED with S above D (R150). The high steps of
a frame's four periods of 256 steps total the duty latched (R151). -/
def Obligations.DutyAndItsFrame : Prop :=
  (∀ h : HeldResult, dutyOf none = 0 ∧ dutyOf (some h) ≤ 1023 ∧
    (h.mode = .pooled → h.demand < h.supply →
      dutyOf (some h) = 1023 * (h.supply - h.demand) / h.supply) ∧
    (h.mode ≠ .pooled ∨ h.supply ≤ h.demand → dutyOf (some h) = 0)) ∧
  (∀ (o : Outputs), o.duty ≤ 1023 →
    (((List.range 4).map fun j => (List.range 256).countP fun n =>
      Outputs.high { o with base := o.duty / 4, extension := o.duty % 4, period := j, step := n }).sum) = o.duty)

/-- The SUR generator: a frame start latches the split of the duty; a crystal cycle drives SUR high for the first b
steps of a period, one more where j is below e, and advances the position; the last step of a period leads to the next
period, that of the fourth to a new frame's start (R151). Conventions of the model, no rules of the spec: log 25. -/
def Obligations.SurGeneratorSteps : Prop :=
  ∀ s : State, s.supervisor.powered = true →
    (s.outputs.frameStartDue = true → exec .surFrameStart s = .next { s with outputs := { s.outputs with
      base := s.outputs.duty / 4, extension := s.outputs.duty % 4, frameStartDue := false } }) ∧
    (s.outputs.frameStartDue = false → s.outputs.step < 255 →
      ∃ v, exec .surGeneratorStep s = .next { s with outputs := { s.outputs with
          sur := v, step := s.outputs.step + 1 } } ∧
        (v = true ↔ s.outputs.step < s.outputs.base + if s.outputs.period < s.outputs.extension then 1 else 0)) ∧
    (s.outputs.frameStartDue = false → s.outputs.step = 255 →
      ∃ v, (v = true ↔ 255 < s.outputs.base + if s.outputs.period < s.outputs.extension then 1 else 0) ∧
        (s.outputs.period < 3 → exec .surGeneratorStep s = .next { s with outputs := { s.outputs with
          sur := v, step := 0, period := s.outputs.period + 1 } }) ∧
        (s.outputs.period = 3 → exec .surGeneratorStep s = .next { s with outputs := { s.outputs with
          sur := v, step := 0, period := 0, frameStartDue := true } }))

/-- LIM at the end of START into RUN and at a completed configuration write: active when the balance is below the
floor, inactive with no floor, held inactive in HOLD-UP (R153, R154). HOLD-UP entry puts the lines at rest and keeps
the held result; exit sets the duty and SHT from it and LIM from the balance (R154). SHT is active for a BUYER with u
above 0, and inactive otherwise and with no held result (R152). Conventions of the model, no rules of the spec: log 6,
log 7, log 52, log 54. -/
def Obligations.HouseholdLines : Prop :=
  (shtOf none = false ∧ ∀ h : HeldResult, shtOf (some h) = true ↔ h.role = .buyer ∧ 0 < h.unmatched) ∧
  ∀ (s : State) (lim : Bool), s.supervisor.powered = true →
    (∀ w, s.store.working = some w → s.supervisor.op ≠ .holdUp →
      lim = decide (s.account.ledger.figures.balance < w.record.limitFloor)) →
    (s.store.working = none → lim = false) → (s.supervisor.op = .holdUp → lim = false) →
    (s.outputs.limDue = true →
      exec .startEndLim s = .next { s with outputs := { s.outputs with limDue := false, lim := lim } }) ∧
    (s.outputs.epoch < s.store.completions →
      exec .limConfigurationWrite s = .next { s with outputs := { s.outputs with
        epoch := s.store.completions, lim := lim } }) ∧
    (∀ rest, s.outputs.power = .entry :: rest →
      exec .outputsHoldUpEntry s = .next { s with outputs := { s.outputs with
        duty := 0, sur := false, period := 0, step := 0, base := 0, extension := 0, frameStartDue := true
        sht := false, lim := false, power := rest } }) ∧
    (∀ rest, s.outputs.power = .exit :: rest →
      exec .outputsHoldUpExit s = .next { s with outputs := { s.outputs with
        power := rest, duty := dutyOf s.outputs.held, sht := shtOf s.outputs.held, lim := lim } })

/-! ### Supply sense -/

/-- Conversions start: at the settling timer's expiry with the converter free, and at a start event in READY. The
channel is REFERENCE at sequence 0, else FEEDER; A is latched and the due time is A x 100 ms away; the sequence
advances. In CONVERTING a start event is skipped and counted (R115, R116, R117). With a conversion still in flight the
timer expires and the converter stays in SETTLING (R115). A is 2 to the power of the working configuration's
accumulation code, or 16 with none (R121, R160). Conventions of the model, no rules of the spec: log 29, log 41, log
42. -/
def Obligations.ConversionsStart : Prop :=
  ∀ s : State, s.supervisor.powered = true →
    (s.supply.converter = .settling → s.supply.settling = .running 0 → s.supply.flight = none →
      exec .settlingTimerExpiry s = .next { s with supply := { s.supply with
        settling := .stopped, periodCount := 0, converter := .converting, sequence := (s.supply.sequence + 1) % 16
        flight := some ⟨if s.supply.sequence = 0 then .reference else .feeder, s.accumulation,
          s.meter.timebase + BitVec.ofNat 32 (s.accumulation * 100), false, s.store.completions⟩ } }) ∧
    (s.supply.converter = .ready → s.supply.startDue = true →
      exec .startEvent s = .next { s with supply := { s.supply with
        startDue := false, converter := .converting, sequence := (s.supply.sequence + 1) % 16
        flight := some ⟨if s.supply.sequence = 0 then .reference else .feeder, s.accumulation,
          s.meter.timebase + BitVec.ofNat 32 (s.accumulation * 100), false, s.store.completions⟩ } }) ∧
    (s.supply.converter = .converting → s.supply.startDue = true →
      exec .startEvent s = .next { s with supply := { s.supply with
        startDue := false, skipped := min 65535 (s.supply.skipped + 1) } }) ∧
    (s.supply.converter = .settling → s.supply.settling = .running 0 → s.supply.flight ≠ none →
      exec .settlingTimerExpiry s = .next { s with supply := { s.supply with settling := .expired } }) ∧
    (∀ w, s.store.working = some w → s.accumulation = 2 ^ w.record.accumulationCode) ∧
    (s.store.working = none → s.accumulation = 16)

/-- A FEEDER conversion at its due time: the result is the sum for A up to 16, else the sum over A / 16 rounded down;
classified against the window, it becomes the last feeder result, valid while SENSE-FAULT is clear; a valid one counts
in the open record, a SAG or a SWELL in its own count too, an invalid one counts nothing (R118, R119). A conversion
with the discard mark, and one that was in flight when a configuration write completed, is only counted as discarded:
the converter returns to READY from CONVERTING, stays HALTED or in SETTLING with its timer running, and with the timer
expired leaves SETTLING and starts a conversion at once (R115, R119, R121, R122). The window is the working
configuration's, or 0 to 65,535 with none (R121, R160). Conventions of the model, no rules of the spec: log 11, log
41. -/
def Obligations.FeederConversionsAreClassified : Prop :=
  (∀ (s : State) (x : Conversion) (sum : Nat), s.supervisor.powered = true →
    s.supply.flight = some x → x.due = s.meter.timebase →
    (∀ (result : Nat) (cls : FeederClass), s.supply.converter = .converting → sum ≤ x.accumulation * 4095 →
      x.channel = .feeder → x.discard = false →
      s.store.completions ≤ x.completions →
      (x.accumulation ≤ 16 → result = sum) → (16 < x.accumulation → result = sum / (x.accumulation / 16)) →
      (result < s.windowLow → cls = .sag) → (s.windowLow ≤ result → s.windowHigh < result → cls = .swell) →
      (s.windowLow ≤ result → result ≤ s.windowHigh → cls = .normal) →
      (s.supply.senseFault = false →
        exec (.conversionComplete sum) s = .next { s with supply := { s.supply with
          converter := .ready, flight := none, lastFeeder := some ⟨result, cls, true⟩
          openRecord := { s.supply.openRecord with
            sag := if cls = .sag then min 65535 (s.supply.openRecord.sag + 1) else s.supply.openRecord.sag
            swell := if cls = .swell then min 65535 (s.supply.openRecord.swell + 1) else s.supply.openRecord.swell
            valid := min 65535 (s.supply.openRecord.valid + 1) } } }) ∧
      (s.supply.senseFault = true →
        exec (.conversionComplete sum) s = .next { s with supply := { s.supply with
          converter := .ready, flight := none, lastFeeder := some ⟨result, cls, false⟩ } })) ∧
    (x.discard = true ∨ x.completions < s.store.completions →
      (s.supply.converter = .converting → exec (.conversionComplete sum) s = .next { s with supply := { s.supply with
        converter := .ready, flight := none, discarded := min 65535 (s.supply.discarded + 1) } }) ∧
      (s.supply.converter = .halted ∨ (s.supply.converter = .settling ∧ ∃ n, s.supply.settling = .running n) →
        exec (.conversionComplete sum) s = .next { s with supply := { s.supply with
          flight := none, discarded := min 65535 (s.supply.discarded + 1) } }) ∧
      (s.supply.converter = .settling → s.supply.settling = .expired →
        exec (.conversionComplete sum) s = .next { s with supply := { s.supply with
          converter := .converting, settling := .stopped, periodCount := 0
          discarded := min 65535 (s.supply.discarded + 1), sequence := (s.supply.sequence + 1) % 16
          flight := some ⟨if s.supply.sequence = 0 then .reference else .feeder, s.accumulation,
            s.meter.timebase + BitVec.ofNat 32 (s.accumulation * 100), false, s.store.completions⟩ } }))) ∧
  (∀ s : State,
    (∀ w, s.store.working = some w → s.windowLow = w.record.windowLow ∧ s.windowHigh = w.record.windowHigh) ∧
    (s.store.working = none → s.windowLow = 0 ∧ s.windowHigh = 65535))

/-- The reference check: outside [1,984 x A', 2,112 x A'] SENSE-FAULT is set and the failure counted; the second
in-band result in a row clears it (R120). A REFERENCE conversion at its due time is checked so with its latched A and
its result, and the converter is READY; nothing is counted in the open record (R118, R120). Conventions of the model,
no rules of the spec: log 11. -/
def Obligations.ReferenceCheck : Prop :=
  (∀ (u : Supply) (a r : Nat),
    (r < 1984 * min a 16 ∨ 2112 * min a 16 < r → u.referenceDone a r = { u with
      lastReference := some r, senseFault := true, inBandRun := 0, refFailures := min 65535 (u.refFailures + 1) }) ∧
    (1984 * min a 16 ≤ r → r ≤ 2112 * min a 16 →
      (u.senseFault = false → u.referenceDone a r = { u with lastReference := some r }) ∧
      (u.senseFault = true → u.inBandRun = 0 → u.referenceDone a r = { u with
        lastReference := some r, inBandRun := 1 }) ∧
      (u.senseFault = true → u.inBandRun = 1 → u.referenceDone a r = { u with
        lastReference := some r, inBandRun := 0, senseFault := false }))) ∧
  (∀ (s : State) (x : Conversion) (sum result : Nat), s.supervisor.powered = true → s.supply.converter = .converting →
    s.supply.flight = some x → x.due = s.meter.timebase → sum ≤ x.accumulation * 4095 → x.channel = .reference →
    x.discard = false → s.store.completions ≤ x.completions →
    (x.accumulation ≤ 16 → result = sum) → (16 < x.accumulation → result = sum / (x.accumulation / 16)) →
    exec (.conversionComplete sum) s = .next { s with supply := { s.supply.referenceDone x.accumulation result with
      converter := .ready, flight := none } })

/-- ISL turning active sets the latch; turning inactive leaves it (R124). A boundary closes the open record as the
record of k: ISLAND if seen, STRAINED at T sags or swells, GRID with a valid conversion, else the last closed state
HELD; the closed record enters the ring last, a full ring of three losing its record of the lowest interval first; the
open record is reset, the latch reloaded from ISL (R124, R126, R127). T is the working configuration's, or 15 with
none (R121, R160). Conventions of the model, no rules of the spec: log 6, log 7, log 10. -/
def Obligations.IslandLatchAndClosure : Prop :=
  (∀ s : State, s.supervisor.powered = true →
    (s.pins.isl = false → exec (.islAssertion true) s = .next { s with
      pins := { s.pins with isl := true }
      supply := { s.supply with openRecord := { s.supply.openRecord with island := true } } }) ∧
    exec (.islAssertion false) s = .next { s with pins := { s.pins with isl := false } }) ∧
  (∀ (s : State) (k n : Nat) (a : Machine.Alignment) (rest : List Notice), s.supervisor.powered = true →
    s.store.completions ≤ s.supply.epoch → s.supply.inbox = .boundary k n a s.supply.epoch :: rest →
    ∃ (x : SupplyState) (src : SupplySource) (ring : List SupplyRecord),
      exec .supplyRecordClosure s = .next { s with supply := { s.supply with
        inbox := rest, ring := ring, lastClosed := x
        openRecord := { sag := 0, swell := 0, island := s.pins.isl, valid := 0 } } } ∧
      EntersRing SupplyRecord.interval s.supply.ring ⟨k, x, src⟩ ring ∧
      (s.supply.openRecord.island = true → x = .island ∧ src = .own) ∧
      (s.supply.openRecord.island = false →
        s.strain ≤ s.supply.openRecord.sag ∨ s.strain ≤ s.supply.openRecord.swell → x = .strained ∧ src = .own) ∧
      (s.supply.openRecord.island = false → s.supply.openRecord.sag < s.strain →
        s.supply.openRecord.swell < s.strain →
        (1 ≤ s.supply.openRecord.valid → x = .grid ∧ src = .own) ∧
        (s.supply.openRecord.valid = 0 → x = s.supply.lastClosed ∧ src = .held))) ∧
  (∀ s : State, (∀ w, s.store.working = some w → s.strain = w.record.strain) ∧
    (s.store.working = none → s.strain = 15))

/-- HOLD-UP and commissioning at supply sense: entry halts the converter and marks a conversion in flight; exit
settles for 2,000 ms; a completed configuration write empties the ring, resets the open record and marks a conversion
in flight (R115, R121, R122, R130). From the completion on, a boundary or jump notification issued before it closes no
record and hands nothing over (R130). Conventions of the model, no rules of the spec: log 6, log 7, log 29, log 41,
log 52, log 59. -/
def Obligations.SupplyHoldUpAndCommissioning : Prop :=
  ∀ (s : State) (rest : List PowerNotice), s.supervisor.powered = true →
    (s.supply.power = .entry :: rest → exec .converterHalt s = .next { s with supply := { s.supply with
      power := rest, converter := .halted, settling := .stopped, periodCount := 0, startDue := false
      flight := s.supply.flight.map fun x => { x with discard := true } } }) ∧
    (s.supply.power = .exit :: rest → exec .converterResettle s = .next { s with supply := { s.supply with
      power := rest, converter := .settling, settling := .running 2000, periodCount := 0, startDue := false } }) ∧
    (s.supply.epoch < s.store.completions →
      exec .supplyCommissioning s = .next { s with supply := { s.supply with
        epoch := s.store.completions, ring := [], periodCount := 0, startDue := false
        openRecord := { sag := 0, swell := 0, island := s.pins.isl, valid := 0 }
        flight := s.supply.flight.map fun x => { x with
          discard := x.discard || decide (x.completions < s.store.completions) } } }) ∧
    (∀ k n a e rest, e < s.store.completions →
      (s.supply.inbox = .boundary k n a e :: rest →
        exec .supplyRecordClosure s = .next { s with supply := { s.supply with inbox := rest } }) ∧
      (s.supply.inbox = .jump k n a e :: rest →
        exec .supplyJumpHandover s = .next { s with supply := { s.supply with inbox := rest } }))

/-! ### Checkpoint store -/

/-- A checkpoint request: discarded in FRESH, refused in FAILED, pending or merged while an operation is in flight; in
IDLE an erase begins where the write pointer is at a sector start that is not blank, else the record of the state as
it stands is built with the next sequence number and its program begins (R164, R165, R166, R167). An erase is needed
at slot 0 or 16, the first of a sector, where that sector holds a slot that is not blank, that is, one in which not
every byte reads erased (R157, R167). The build reads the counters, the last reckoned interval and the account with
their parity (R6, R112, R142). Conventions of the model, no rules of the spec: log 6, log 22, log 51. -/
def Obligations.CheckpointRequestsAreTaken : Prop :=
  (∀ (a : NvArray) (n : Nat), a.eraseNeeded n = true ↔ n % 16 = 0 ∧
    ∃ i p, n ≤ i ∧ i < n + 16 ∧ a.slots[i]? = some p ∧ p.isBlank = false) ∧
  (Place.erased.isBlank = true ∧ Place.damaged.isBlank = false ∧
    ∀ bs : List Byte, (Place.written bs).isBlank = true ↔ ∀ b ∈ bs, b = 0xFF#8) ∧
  (∀ s : State, s.buildOk = true ↔
    s.meter.countersOk = true ∧ s.reckoning.lastParity = true ∧ s.account.parity = true) ∧
  ∀ (s : State) (q : StoreNotice) (rest : List StoreNotice), s.supervisor.powered = true →
    s.store.inbox = q :: rest →
    (s.store.commissioning = .fresh →
      exec .checkpointRequest s = .next { s with store := { s.store with inbox := rest } }) ∧
    (s.store.commissioning ≠ .fresh → s.store.failed = true →
      exec .checkpointRequest s = .next { s with store := { s.store with
        inbox := rest
        counters := { s.store.counters with refused := min 65535 (s.store.counters.refused + 1) } } }) ∧
    (s.store.commissioning ≠ .fresh → s.store.failed = false → s.store.op ≠ none →
      (s.store.pending = false →
        exec .checkpointRequest s = .next { s with store := { s.store with inbox := rest, pending := true } }) ∧
      (s.store.pending = true →
        exec .checkpointRequest s = .next { s with store := { s.store with
          inbox := rest
          counters := { s.store.counters with merged := min 65535 (s.store.counters.merged + 1) } } })) ∧
    (s.store.commissioning ≠ .fresh → s.store.failed = false → s.store.op = none →
      s.supervisor.resetPending = .none →
      (s.store.array.eraseNeeded s.store.pointer = true →
        exec .checkpointRequest s = .next { s with store := { s.store with
          inbox := rest, op := some (.eraseSector (s.store.pointer / 16) 1 none) } }) ∧
      (s.store.array.eraseNeeded s.store.pointer = false → s.buildOk = true →
        exec .checkpointRequest s = .next { s with store := { s.store with
          inbox := rest, pending := false
          op := some (.programSlot s.store.pointer (Checkpoint.bytes
            { seq := s.store.nextSeq, tag := s.store.tag.getD 0
              cumExport := s.meter.exp.counter + s.meter.exp.accumulator
              cumImport := s.meter.imp.counter + s.meter.imp.accumulator
              c := s.clock.c, last := s.reckoning.last, ledger := s.account.ledger }) 1 s.store.finalOwed) } }))

/-- Erases and slot programs complete: the configuration sector erased, the record's program follows; its first failed
erase is made again and the second enters FAILED and answers STORE-FAILED, both without a record that passes and
without a marker, the parameters, the state and the condition kept; a sector's first failed erase is made again, only
that sector changed, and the second enters FAILED; a sector erased, the record is built and its program follows, or
the second attempt of the record that waits; a pending request is served at a completion; a verified slot is the
newest valid one, the pointer and the sequence number move on; a first failed program is made again in the next slot,
a second enters FAILED; a record built after the final request is reported WRITTEN and answers RESTART-NODE (R161,
R162, R165, R167, R168, R169, R170, R171, R173, R206). Conventions of the model, no rules of the spec: log 11, log 14,
log 43, log 51. -/
def Obligations.ErasesAndSlotProgramsComplete : Prop :=
  (∀ s : State, s.supervisor.powered = true → s.supervisor.resetPending = .none →
    (∀ body n, s.store.op = some (.eraseConfig body n) →
      exec (.eraseComplete true) s = .next { s with store := { s.store with
        op := some (.programConfig body), array := { s.store.array with config := .erased, lock := .erased } } }) ∧
    (∀ body n, s.store.op = some (.eraseConfig body n) → ∃ place lock,
      place.passing 98 = none ∧ lock.lockCheck = none ∧ (place = .erased → lock ≠ .erased) ∧
      (n = 1 → exec (.eraseComplete false) s = .next { s with
        freeCount := s.freeCount + 2
        store := { s.store with
          op := some (.eraseConfig body 2), array := { s.store.array with config := place, lock := lock }
          counters := { s.store.counters with
            eraseFailures := min 65535 (s.store.counters.eraseFailures + 1) } } }) ∧
      (n = 2 → s.store.finalOwed = false → exec (.eraseComplete false) s = .next { s with
        freeCount := s.freeCount + 2
        port := waitAnswered s.port 0x06#8 [6#8]
        store := { s.store with
          op := none, failed := true, pending := false
          array := { s.store.array with config := place, lock := lock }
          counters := { s.store.counters with
            eraseFailures := min 65535 (s.store.counters.eraseFailures + 1) } } })) ∧
    (∀ k r, s.store.op = some (.eraseSector k 1 r) →
      exec (.eraseComplete false) s = .next { s with
        freeCount := s.freeCount + 1
        store := { s.store with
          op := some (.eraseSector k 2 r), array := s.store.array.eraseFailed s.freeCount k
          counters := { s.store.counters with
            eraseFailures := min 65535 (s.store.counters.eraseFailures + 1) } } }) ∧
    (∀ k r, s.store.op = some (.eraseSector k 2 r) → s.store.finalOwed = false →
      exec (.eraseComplete false) s = .next { s with
        freeCount := s.freeCount + 1
        store := { s.store with
          op := none, failed := true, pending := false, array := s.store.array.eraseFailed s.freeCount k
          counters := { s.store.counters with
            eraseFailures := min 65535 (s.store.counters.eraseFailures + 1) } } }) ∧
    (∀ k n, s.store.op = some (.eraseSector k n none) → s.buildOk = true →
      exec (.eraseComplete true) s = .next { s with store := { s.store with
        pending := false, array := s.store.array.eraseSector k
        op := some (.programSlot s.store.pointer (recordNow s s.store.nextSeq s.account.ledger).bytes 1
          s.store.finalOwed) } }) ∧
    (∀ k n bytes final, s.store.op = some (.eraseSector k n (some (bytes, final))) →
      exec (.eraseComplete true) s = .next { s with store := { s.store with
        op := some (.programSlot s.store.pointer bytes 2 final), array := s.store.array.eraseSector k } }) ∧
    (∀ n bytes r a, s.store.op = some (.programSlot n bytes r false) → s.store.pending = true →
      s.store.commissioning ≠ .fresh → (s.store.array.slots.getD n .erased).isBlank = true →
      s.store.nextSeq < 4294967295 → a = { s.store.array with slots := s.store.array.slots.set n (.written bytes) } →
      (a.eraseNeeded ((s.store.pointer + 1) % 32) = true →
        exec (.slotProgramComplete true) s = .next { s with store := { s.store with
          op := some (.eraseSector ((s.store.pointer + 1) % 32 / 16) 1 none), array := a
          newest := some ⟨n, checkpointSeq bytes⟩, pointer := (s.store.pointer + 1) % 32
          nextSeq := s.store.nextSeq + 1
          counters := { s.store.counters with written := min 65535 (s.store.counters.written + 1) } } }) ∧
      (a.eraseNeeded ((s.store.pointer + 1) % 32) = false → s.buildOk = true →
        exec (.slotProgramComplete true) s = .next { s with store := { s.store with
          pending := false, array := a
          op := some (.programSlot ((s.store.pointer + 1) % 32)
            (recordNow s (s.store.nextSeq + 1) s.account.ledger).bytes 1 s.store.finalOwed)
          newest := some ⟨n, checkpointSeq bytes⟩, pointer := (s.store.pointer + 1) % 32
          nextSeq := s.store.nextSeq + 1
          counters := { s.store.counters with written := min 65535 (s.store.counters.written + 1) } } })) ∧
    (∀ n bytes r, s.store.op = some (.programSlot n bytes r false) → s.store.pending = false →
      (s.store.array.slots.getD n .erased).isBlank = true → s.store.nextSeq < 4294967295 →
      exec (.slotProgramComplete true) s = .next { s with store := { s.store with
        op := none, array := { s.store.array with slots := s.store.array.slots.set n (.written bytes) }
        newest := some ⟨n, checkpointSeq bytes⟩, pointer := (s.store.pointer + 1) % 32
        nextSeq := s.store.nextSeq + 1
        counters := { s.store.counters with written := min 65535 (s.store.counters.written + 1) } } }) ∧
    (∀ n bytes final, s.store.op = some (.programSlot n bytes 1 final) → s.store.pointer % 16 < 15 →
      exec (.slotProgramComplete false) s = .next { s with store := { s.store with
        op := some (.programSlot ((s.store.pointer + 1) % 32) bytes 2 final)
        array := { s.store.array with slots := s.store.array.slots.set n .damaged }
        pointer := (s.store.pointer + 1) % 32
        counters := { s.store.counters with
          programFailures := min 65535 (s.store.counters.programFailures + 1) } } }) ∧
    (∀ n bytes final, s.store.op = some (.programSlot n bytes 2 final) →
      ∃ t, exec (.slotProgramComplete false) s = .next t ∧ t.store.failed = true ∧ t.store.op = none ∧
        t.store.pending = false ∧ t.store.newest = s.store.newest ∧ t.store.nextSeq = s.store.nextSeq)) ∧
  (∀ (s : State) (n r : Nat) (bytes : List Byte), s.supervisor.powered = true →
    s.supervisor.resetPending = .requested → s.supervisor.armed = false → s.supervisor.finalAwaited = true →
    s.store.finalOwed = true → (s.store.array.slots.getD n .erased).isBlank = true → s.store.nextSeq < 4294967295 →
    s.store.op = some (.programSlot n bytes r true) →
    exec (.slotProgramComplete true) s = .next { s with
      supervisor := { s.supervisor with finalAwaited := false, outcome := some .written }
      port := waitAnswered s.port 0x0A#8 [0#8, 0#8]
      store := { s.store with
        op := none, finalOwed := false
        array := { s.store.array with slots := s.store.array.slots.set n (.written bytes) }
        newest := some ⟨n, checkpointSeq bytes⟩, pointer := (s.store.pointer + 1) % 32
        nextSeq := s.store.nextSeq + 1
        counters := { s.store.counters with written := min 65535 (s.store.counters.written + 1) } } }) ∧
  (∀ (a : NvArray) (k : Nat), (a.eraseSector k).config = a.config ∧ (a.eraseSector k).lock = a.lock ∧
    ∀ i, (i / 16 = k → (a.eraseSector k).slots[i]? = a.slots[i]?.map fun _ => .erased) ∧
      (i / 16 ≠ k → (a.eraseSector k).slots[i]? = a.slots[i]?)) ∧
  (∀ (a : NvArray) (free k : Nat),
    (a.eraseFailed free k).config = a.config ∧ (a.eraseFailed free k).lock = a.lock ∧
    (a.eraseFailed free k).slots.length = a.slots.length ∧
    (∀ i, i / 16 ≠ k → (a.eraseFailed free k).slots[i]? = a.slots[i]?) ∧
    (k * 16 < a.slots.length → ∃ i, i / 16 = k ∧ ∃ p, (a.eraseFailed free k).slots[i]? = some p ∧ p.isBlank = false))

/-- A configuration record and a lock marker complete: on a verified record the working configuration is replaced, the
node is COMMISSIONED and GOOD with the lock place BLANK, the completion is there for every block to take and a waiting
COMMISSION is answered OK; a failed one leaves no record that passes and everything else as it was, with STORE-FAILED;
a verified marker makes the node LOCKED and answers OK; a failed one leaves the lock place SPOILT and answers
STORE-FAILED (R161, R162, R163, R202, R203). The marker is the check value and its inversion, and the lock place is
MARKED by it unless a record that passes has another check; every place that is not blank and holds no such marker is
SPOILT (R159, R215). Conventions of the model, no rules of the spec: log 7, log 11, log 14, log 43. -/
def Obligations.ConfigurationAndLockComplete : Prop :=
  (∀ s : State, s.supervisor.powered = true → s.supervisor.resetPending = .none → s.store.pending = false →
    (∀ body, s.store.op = some (.programConfig body) →
      exec (.configurationWriteComplete true) s = .next { s with
        port := waitAnswered s.port 0x06#8 [0#8]
        store := { s.store with
          op := none, completions := s.store.completions + 1, commissioning := .commissioned, condition := .good
          lock := .blank, working := some { record := Configuration.ofBytes body, check := crc16 body }
          array := { s.store.array with config := .written (body ++ checkBytes body) } } } ∧
      ∃ place : Place, place.passing 98 = none ∧ exec (.configurationWriteComplete false) s = .next { s with
        port := waitAnswered s.port 0x06#8 [6#8], freeCount := s.freeCount + 1
        store := { s.store with
          op := none, array := { s.store.array with config := place }
          counters := { s.store.counters with
            programFailures := min 65535 (s.store.counters.programFailures + 1) } } }) ∧
    (∀ v, s.store.op = some (.programLock v) →
      exec (.lockMarkerProgramComplete true) s = .next { s with
        port := waitAnswered s.port 0x07#8 [0#8]
        store := { s.store with
          op := none, commissioning := .locked, lock := .marked
          array := { s.store.array with lock := .written (lockMarker v) } } } ∧
      exec (.lockMarkerProgramComplete false) s = .next { s with
        port := waitAnswered s.port 0x07#8 [6#8]
        store := { s.store with
          op := none, lock := .spoilt, array := { s.store.array with lock := .damaged }
          counters := { s.store.counters with
            programFailures := min 65535 (s.store.counters.programFailures + 1) } } })) ∧
  (∀ v w : Word16, lockMarker v = beBytes 2 v.toNat ++ beBytes 2 (~~~v).toNat ∧ (lockMarker v).length = 4 ∧
    (Place.written (lockMarker v)).lockClass (some v) = .marked ∧
    (Place.written (lockMarker v)).lockClass none = .marked ∧
    (w ≠ v → (Place.written (lockMarker v)).lockClass (some w) = .spoilt) ∧
    (∀ r, Place.erased.lockClass r = .blank ∧ Place.damaged.lockClass r = .spoilt ∧
      (Place.written (List.replicate 4 0xFF#8)).lockClass r = .blank)) ∧
  (∀ (p : Place) (v : Word16), (p.lockCheck = some v ↔ p = .written (lockMarker v)) ∧
    ∀ r, p.isBlank = false → p.lockCheck = none → p.lockClass r = .spoilt)

/-- The selection event: the store takes as newest and restored slot the newest valid checkpoint under the tag the
start read finds; the owners take that checkpoint's counters, interval with r = L, last reckoned interval and account,
or zeros and none without one; START ends into RUN with the mains present, into HOLD-UP with it lost (R174, R175,
R180). The end of START is left for the blocks to take: the fold of the accumulators, which are kept, the listen
window, the request held, and into RUN the evaluation of LIM; into HOLD-UP also the entry, for the link, supply sense,
the outputs and the store (R180, R182). The start read takes the working configuration from a record that passes, the
class of the lock place, and from the two the commissioning state and the condition (R159). The newest valid slot is
one of the slots whose check agrees and whose tag is the one in force, and has the greatest sequence number of them;
there is none only where no slot is such, or no tag (R157, R160, R174). The next sequence number is one above the
greatest of the slots whose check agrees, or 1, and the write pointer the first blank slot or first slot of a sector
after the newest valid slot, or after that greatest, or from slot 0 (R175). Conventions of the model, no rules of the
spec: log 6, log 16, log 56. -/
def Obligations.SelectionRestoresTheNewest : Prop :=
  (∀ s : State, s.supervisor.powered = true → s.supervisor.op = .start →
    ∃ t, exec .selectionEvent s = .next t ∧
      t.store.newest = s.store.array.newestValid (Store.restarted s.store.array).tag ∧
      (s.supervisor.mains = .present → t.supervisor.op = .run) ∧
      (s.supervisor.mains = .lost → t.supervisor.op = .holdUp ∧ t.store.inbox = s.store.inbox ++ [.holdUp]) ∧
      (t.meter.foldDue = true ∧ t.clock.listenDue = true ∧ t.port.heldDue = true ∧ t.peers.taking = s.peers.taking ∧
        t.meter.imp.accumulator = s.meter.imp.accumulator ∧ t.meter.exp.accumulator = s.meter.exp.accumulator) ∧
      (s.supervisor.mains = .present → t.outputs = { s.outputs with limDue := true } ∧ t.link = s.link ∧
        t.supply = s.supply ∧ t.store.inbox = s.store.inbox) ∧
      (s.supervisor.mains = .lost →
        t.outputs = { s.outputs with limDue := false, power := s.outputs.power ++ [.entry] } ∧
        t.link = { s.link with power := s.link.power ++ [.entry] } ∧
        t.supply = { s.supply with power := s.supply.power ++ [.entry] }) ∧
      (t.store.working = (Store.restarted s.store.array).working ∧
        t.store.commissioning = (Store.restarted s.store.array).commissioning ∧
        t.store.condition = (Store.restarted s.store.array).condition ∧
        t.store.lock = (Store.restarted s.store.array).lock) ∧
      t.clock.r = intervalLength t.clock.lengthCode ∧ t.peers.tableInterval = t.clock.c ∧
      t.store.restored = t.store.newest ∧ t.store.array = s.store.array ∧
      t.meter.snapshot = ⟨t.meter.exp.counter, t.meter.imp.counter⟩ ∧
      (t.store.newest = none → t.meter.exp.counter = 0 ∧ t.meter.imp.counter = 0 ∧ t.clock.c = 0 ∧
        t.reckoning.last = none ∧ t.account.ledger.figures.balance = 0 ∧ t.account.ledger.summary = none) ∧
      (∀ x bytes, t.store.newest = some x → s.store.array.slots.getD x.slot .erased = .written bytes →
        t.meter.exp.counter = (Checkpoint.ofBytes bytes).cumExport ∧
        t.meter.imp.counter = (Checkpoint.ofBytes bytes).cumImport ∧ t.clock.c = (Checkpoint.ofBytes bytes).c ∧
        t.reckoning.last = (Checkpoint.ofBytes bytes).last ∧
        t.account.ledger = (Checkpoint.ofBytes bytes).ledger)) ∧
  (∀ (a : NvArray) (tag : Word16) (valid : SlotRef → Prop),
    (∀ y, valid y ↔ ∃ bytes, a.slots[y.slot]? = some (.written bytes) ∧
      (Place.written bytes).passing 191 = some bytes ∧ checkpointTag bytes = tag ∧ y.seq = checkpointSeq bytes) →
    (∀ x, a.newestValid (some tag) = some x → valid x ∧ ∀ y, valid y → y.seq ≤ x.seq) ∧
    (a.newestValid (some tag) = none → ∀ y, ¬ valid y) ∧ a.newestValid none = none) ∧
  (∀ t : Store,
    (∀ w, t.working = some w → t.tag = some w.check) ∧
    (t.working = none → t.commissioning = .locked → t.tag = t.array.lock.lockCheck) ∧
    (t.working = none → t.commissioning ≠ .locked → t.tag = none)) ∧
  (∀ (a : NvArray) (t : Store), t = Store.restarted a →
    t.array = a ∧ t.lock = a.lock.lockClass (t.working.map fun w => w.check) ∧
    (a.config.passing 98 = none → t.working = none) ∧
    (∀ bs, a.config.passing 98 = some bs → t.working = some
      { record := Configuration.ofBytes (bs.take 96), check := BitVec.ofNat 16 (fieldNat bs 96 2) }) ∧
    (t.lock = .marked → t.commissioning = .locked ∧ (t.condition = .defective ↔ t.working = none)) ∧
    (t.lock ≠ .marked → t.condition = .good ∧ (t.working = none → t.commissioning = .fresh) ∧
      (t.working ≠ none → t.commissioning = .commissioned))) ∧
  (∀ (s t : State) (agrees : Nat → Nat → Prop) (start : Nat),
    (∀ n q, agrees n q ↔ ∃ bytes, s.store.array.slots[n]? = some (.written bytes) ∧
      (Place.written bytes).passing 191 = some bytes ∧ q = checkpointSeq bytes) →
    s.supervisor.powered = true → s.supervisor.op = .start → exec .selectionEvent s = .next t →
    ((∀ n q, ¬ agrees n q) → t.store.nextSeq = 1) ∧
    (∀ n q, agrees n q → q < 4294967295 → (∀ m p, agrees m p → p ≤ q) → t.store.nextSeq = q + 1) ∧
    ((∀ x, t.store.newest = some x → start = (x.slot + 1) % 32) →
      (t.store.newest = none → (∀ n q, ¬ agrees n q) → start = 0) →
      (t.store.newest = none → ∀ n q, agrees n q → (∀ m p, agrees m p → p < q ∨ (p = q ∧ n ≤ m)) →
        start = (n + 1) % 32) →
      ∃ d ≤ 16, t.store.pointer = (start + d) % 32 ∧
        (t.store.pointer % 16 = 0 ∨ (s.store.array.slots.getD t.store.pointer .erased).isBlank = true) ∧
        ∀ i < d, (start + i) % 32 % 16 ≠ 0 ∧
          (s.store.array.slots.getD ((start + i) % 32) .erased).isBlank = false))

/-! ### Power supervisor -/

/-- The mains: a falling edge with the mains present starts the measurement, and 20 ms low in RUN make HOLD-UP entry,
notified to four blocks; 200 ms high in HOLD-UP make the exit (R178, R182, R183). An edge back to the mains state
stops the measurement, one against it starts it, and in START the end of the measurement changes the mains state alone
(R178). SLO powers a node off, its array kept with no operation in flight; a POWER reset follows the power-on level or
the 200 ms measurement, which SLO's end starts; the power-on level makes it on a powered node too, and has no effect
in a START that the measurement has entered in the same power-up (R184, R185, R189). The reset leaves in every block
what its reset table says: both rings, the queues and the table empty, the clock UNALIGNED with r = L, the link IDLE
in HUNT, the converter SETTLING with SENSE-FAULT clear and the sequence at 0, the last closed state GRID, the latch at
the level of ISL, the outputs at rest, the counters 0, the port in WAIT, no operation in flight and START entered
(R14, R33, R58, R84, R112, R131, R148, R155, R176, R209). Conventions of the model, no rules of the spec: log 6, log
10, log 15, log 19, log 44. -/
def Obligations.MainsAndPower : Prop :=
  ∀ s : State,
    (s.supervisor.powered = true → s.pins.mns = true → s.supervisor.mains = .present →
      exec (.mnsEdge false) s = .next { s with
        pins := { s.pins with mns := false }
        supervisor := { s.supervisor with measure := some s.meter.timebase } }) ∧
    (∀ since, s.supervisor.powered = true → s.supervisor.measure = some since → s.supervisor.mains = .present →
      s.supervisor.op = .run → 20 ≤ (s.meter.timebase - since).toNat →
      exec .mainsMeasurementExpiry s = .next { s with
        supervisor := { s.supervisor with mains := .lost, measure := none, op := .holdUp }
        link := { s.link with power := s.link.power ++ [.entry] }
        supply := { s.supply with power := s.supply.power ++ [.entry] }
        outputs := { s.outputs with power := s.outputs.power ++ [.entry] }
        store := { s.store with inbox := s.store.inbox ++ [.holdUp] } }) ∧
    (∀ since, s.supervisor.powered = true → s.supervisor.measure = some since → s.supervisor.mains = .lost →
      s.supervisor.op = .holdUp → 200 ≤ (s.meter.timebase - since).toNat →
      exec .mainsMeasurementExpiry s = .next { s with
        supervisor := { s.supervisor with mains := .present, measure := none, op := .run }
        link := { s.link with power := s.link.power ++ [.exit] }
        supply := { s.supply with power := s.supply.power ++ [.exit] }
        outputs := { s.outputs with power := s.outputs.power ++ [.exit] } }) ∧
    (s.supervisor.powered = true → s.pins.mns = false → s.supervisor.mains = .present →
      exec (.mnsEdge true) s = .next { s with
        pins := { s.pins with mns := true }, supervisor := { s.supervisor with measure := none } }) ∧
    (s.supervisor.powered = true → s.supervisor.mains = .lost →
      (s.pins.mns = false → exec (.mnsEdge true) s = .next { s with
        pins := { s.pins with mns := true }
        supervisor := { s.supervisor with measure := some s.meter.timebase } }) ∧
      (s.pins.mns = true → exec (.mnsEdge false) s = .next { s with
        pins := { s.pins with mns := false }, supervisor := { s.supervisor with measure := none } })) ∧
    (∀ since elapsed, s.supervisor.powered = true → s.supervisor.measure = some since →
      elapsed = (s.meter.timebase - since).toNat →
      (s.supervisor.mains = .present ∧ elapsed < 20 ∨ s.supervisor.mains = .lost ∧ elapsed < 200 →
        exec .mainsMeasurementExpiry s = .next s) ∧
      (s.supervisor.op = .start → s.supervisor.mains = .present → 20 ≤ elapsed →
        exec .mainsMeasurementExpiry s = .next { s with
          supervisor := { s.supervisor with mains := .lost, measure := none } }) ∧
      (s.supervisor.op = .start → s.supervisor.mains = .lost → 200 ≤ elapsed →
        exec .mainsMeasurementExpiry s = .next { s with
          supervisor := { s.supervisor with mains := .present, measure := none } })) ∧
    (s.supervisor.powered = true → s.pins.slo = false → s.store.op = none →
      ∃ t, exec .sloAsserted s = .next t ∧ t.supervisor.powered = false ∧ t.store.array = s.store.array ∧
        t.pins = { s.pins with slo := true } ∧ t.outputs.sur = false ∧ t.outputs.sht = false ∧
        t.outputs.lim = false ∧ t.link.req = false) ∧
    (s.supervisor.powered = false → s.pins.slo = true → s.pins.mns = true →
      exec .sloInactive s = .next { s with
        pins := { s.pins with slo := false }, supervisor := { s.supervisor with powerUp := some 200 } }) ∧
    (s.supervisor.powered = true → s.supervisor.op = .start → s.supervisor.riseDue = true →
      exec .powerOnLevel s = .next { s with supervisor := { s.supervisor with riseDue := false } }) ∧
    (s.supervisor.powered = true → s.supervisor.op ≠ .start ∨ s.supervisor.riseDue = false → s.store.op = none →
      ∃ t, exec .powerOnLevel s = .next t ∧ t.supervisor.powered = true ∧ t.supervisor.op = .start ∧
        t.supervisor.cause = { last := some .power, requested := 0, parity := 0, duplicateId := false } ∧
        t.store.array = s.store.array ∧ ResetLeaves s.pins t) ∧
    (s.supervisor.powered = false →
      ∃ t, exec .powerOnLevel s = .next t ∧ t.supervisor.powered = true ∧ t.supervisor.op = .start ∧
        t.supervisor.cause = { last := some .power, requested := 0, parity := 0, duplicateId := false } ∧
        t.supervisor.mains = (if s.pins.mns = true then .present else .lost) ∧ t.store.array = s.store.array ∧
        ResetLeaves s.pins t ∧ t.supervisor.riseDue = false ∧
        (s.supervisor.powerUp = some 0 → exec .mainsReturnPowerUp s = .next { t with
          supervisor := { t.supervisor with riseDue := true } }))

/-! ### Collector port -/

/-- The port: in WAIT 0x5A begins a request and any other byte is counted as discarded, as any byte is in EXECUTING
and RESPONDING; a framing error and an expired gap timer end a request MALFORMED, answered with its kind byte, or 0x00
before that byte; the end of a response returns the port to WAIT, and after RESTART-NODE lets the REQUESTED reset take
effect; a request held since START is executed when START has ended (R193, R194, R195, R198, R186, R209). In RECEIVING
a byte joins the request and restarts the gap timer; a length above 96 ends it MALFORMED; the byte that completes it
leaves it held in EXECUTING where the check agrees, the kind is known and the length is that kind's, else it ends
MALFORMED (R195, R196). The kinds are 0x01 to 0x0B with the body lengths of their table, and an envelope is the start
mark, the kind, the length, the body and the check over the last three (R196, R213). Outside RECEIVING a framing error
is ignored (R193). A request is executed at once in RUN and HOLD-UP and held in START (R197, R209). Conventions of the
model, no rules of the spec: log 6, log 18. -/
def Obligations.PortReceivesAndResponds : Prop :=
  (([0x01#8, 0x02#8, 0x03#8, 0x04#8, 0x05#8, 0x06#8, 0x07#8, 0x08#8, 0x09#8, 0x0A#8, 0x0B#8].map RequestKind.ofByte =
      [RequestKind.status, .account, .peekRecords, .takeRecords, .peers, .commission, .lock, .closePeriod, .restartBlock,
        .restartNode, .clearCause].map some) ∧
    (∀ b : Byte, b.toNat = 0 ∨ 11 < b.toNat → RequestKind.ofByte b = none) ∧
    (∀ k : RequestKind, k.bodyLength =
      if k = .peekRecords ∨ k = .takeRecords ∨ k = .peers ∨ k = .restartBlock then 1
      else if k = .commission then 96 else 0) ∧
    ∀ (kind : Byte) (body : List Byte), envelope kind body =
      0x5A#8 :: kind :: BitVec.ofNat 8 body.length ::
        (body ++ checkBytes (kind :: BitVec.ofNat 8 body.length :: body))) ∧
  (∀ (s : State) (i : Instr) (x : Request) (held : Port), s.supervisor.powered = true → requestOf i = some x →
    (x.kind = 0x06#8 → x.body.length = 96) →
    held = { s.port with state := .executing, held := some x, begun := false } →
    (s.port.state = .executing → s.port.begun = false → s.port.held = some x → s.supervisor.op ≠ .start →
      exec i s = .next (State.execute x s)) ∧
    (s.port.state = .wait → s.supervisor.op ≠ .start → exec i s = .next (State.execute x { s with port := held })) ∧
    (s.port.state = .wait → s.supervisor.op = .start → exec i s = .next { s with port := held })) ∧
  ∀ s : State, s.supervisor.powered = true →
    (s.port.state ≠ .receiving → exec .portFramingError s = .next s) ∧
    (s.port.state = .wait → exec (.portReceivedByte 0x5A#8) s = .next { s with port := { s.port with
      state := .receiving, assembly := [0x5A#8], gap := some 50 } }) ∧
    (s.port.state = .wait ∨ s.port.state = .executing ∨ s.port.state = .responding → ∀ b, b ≠ 0x5A#8 →
      exec (.portReceivedByte b) s = .next { s with port := { s.port with
        discarded := min 65535 (s.port.discarded + 1) } }) ∧
    (∀ b, s.port.state = .receiving → s.port.assembly.length = 1 ∨ (2 ≤ s.port.assembly.length ∧
        ((s.port.assembly ++ [b]).getD 2 0#8).toNat ≤ 96 ∧
        s.port.assembly.length < ((s.port.assembly ++ [b]).getD 2 0#8).toNat + 4) →
      exec (.portReceivedByte b) s = .next { s with port := { s.port with
        assembly := s.port.assembly ++ [b], gap := some 50 } }) ∧
    (∀ kind b, s.port.state = .receiving → s.port.assembly = [0x5A#8, kind] → 96 < b.toNat →
      exec (.portReceivedByte b) s = .next { s with port := { s.port with
        state := .responding, held := none, assembly := [], gap := none, begun := false
        response := some (envelope kind [5#8]) } }) ∧
    (∀ (kind b1 b2 : Byte) (body : List Byte), s.port.state = .receiving → body.length ≤ 96 →
      s.port.assembly = 0x5A#8 :: kind :: BitVec.ofNat 8 body.length :: (body ++ [b1]) →
      (∀ k, [b1, b2] = checkBytes (kind :: BitVec.ofNat 8 body.length :: body) → RequestKind.ofByte kind = some k →
        body.length = k.bodyLength →
        exec (.portReceivedByte b2) s = .next { s with port := { s.port with
          state := .executing, assembly := [], gap := none, held := some ⟨kind, body⟩, begun := false } }) ∧
      ([b1, b2] ≠ checkBytes (kind :: BitVec.ofNat 8 body.length :: body) ∨ RequestKind.ofByte kind = none ∨
          (∃ k, RequestKind.ofByte kind = some k ∧ body.length ≠ k.bodyLength) →
        exec (.portReceivedByte b2) s = .next { s with port := { s.port with
          state := .responding, held := none, assembly := [], gap := none, begun := false
          response := some (envelope kind [5#8]) } })) ∧
    (∀ kind more, s.port.state = .receiving → s.port.assembly = 0x5A#8 :: kind :: more →
      exec .portFramingError s = .next { s with port := { s.port with
        state := .responding, held := none, assembly := [], gap := none, begun := false
        response := some (envelope kind [5#8]) } } ∧
      (s.port.gap = some 0 → exec .gapTimerExpiry s = .next { s with port := { s.port with
        state := .responding, held := none, assembly := [], gap := none, begun := false
        response := some (envelope kind [5#8]) } })) ∧
    (s.port.state = .responding → s.supervisor.resetPending = .none →
      exec .responseSent s = .next { s with port := { s.port with state := .wait, held := none, response := none } }) ∧
    (s.port.state = .responding → s.port.held = some ⟨0x0A#8, []⟩ → s.supervisor.resetPending = .requested →
      s.store.op = none →
      ∃ t, exec .responseSent s = .next t ∧ t.supervisor.op = .start ∧
        t.supervisor.cause = { s.supervisor.cause with
          last := some .requested, requested := min 65535 (s.supervisor.cause.requested + 1) } ∧
        t.store.array = s.store.array ∧ ResetLeaves s.pins t) ∧
    (s.port.state = .executing ∨ s.port.state = .responding →
      exec (.portReceivedByte 0x5A#8) s = .next { s with port := { s.port with
        discarded := min 65535 (s.port.discarded + 1) } }) ∧
    (s.port.state = .receiving → s.port.assembly = [0x5A#8] →
      exec .portFramingError s = .next { s with port := { s.port with
        state := .responding, held := none, assembly := [], gap := none, begun := false
        response := some (envelope 0#8 [5#8]) } } ∧
      (s.port.gap = some 0 → exec .gapTimerExpiry s = .next { s with port := { s.port with
        state := .responding, held := none, assembly := [], gap := none, begun := false
        response := some (envelope 0#8 [5#8]) } })) ∧
    (s.port.heldDue = true →
      (∀ x, s.port.state = .executing → s.port.begun = false → s.port.held = some x →
        exec .heldRequestExecution s =
          .next (State.execute x { s with port := { s.port with heldDue := false } })) ∧
      (s.port.held = none →
        exec .heldRequestExecution s = .next { s with port := { s.port with heldDue := false } })) ∧
    (s.port.heldDue = true → s.port.state = .executing → s.port.begun = false →
      s.port.held = some ⟨0x0B#8, []⟩ →
      exec .heldRequestExecution s = .next { s with
        supervisor := { s.supervisor with
          cause := { last := none, requested := 0, parity := 0, duplicateId := false } }
        port := { s.port with
          heldDue := false, state := .responding, assembly := [], gap := none
          response := some (envelope 0x0B#8 [0#8]) } })

/-- The reading requests, outside START: STATUS answers the status block of the node with the request in execution and
ACCOUNT the account, with the parity checks holding; PEEK-RECORDS and TAKE-RECORDS answer the oldest records with the
queue's length and TAKE-RECORDS removes them; PEERS answers the total and the entries from position i in order, up to 8
and up to 251 bytes of them, as many as fit, where none fails its parity check, and frees and leaves out one that does;
n outside 1..4 and i above 47 are BAD-VALUE with index 1. A settlement record, a peer entry and the account stand in
their bytes field by field at the offsets of their layouts, and the status block is the items of the rules in order,
each in its width, with the enumerations' numbers (R139, R210, R214, R87, R144, R146, R147, R197, R199, R213).
Conventions of the model, no rules of the spec: log 18, log 26. -/
def Obligations.ReadingRequestsAnswer : Prop :=
  (∀ x : SettlementRecord, SettlementInRange x → SettlementAt x.bytes x) ∧
  (∀ e : Entry, EntryInRange e → EntryAt e.bytes e) ∧ (∀ a : Ledger, LedgerInRange a → LedgerAt a.bytes a) ∧
  (∀ s : State, s.statusBlock = ((statusItems s).map fun x => beBytes x.1 x.2).flatten) ∧
  ([SupplyState.grid, .strained, .island].map SupplyState.code = [0, 1, 2] ∧
    [SupplySource.own, .peer, .held].map SupplySource.code = [0, 1, 2] ∧
    [none, some SupplyState.grid, some .strained, some .island].map supplyCode = [3, 0, 1, 2] ∧
    [Mode.pooled, .unpooled, .lone].map Mode.code = [0, 1, 2] ∧
    [Role.idle, .seller, .buyer].map Role.code = [0, 1, 2] ∧
    [Direction.credit, .charge].map Direction.code = [0, 1] ∧
    [EntryState.learning, .active, .silent, .discordant].map EntryState.code = [0, 1, 2, 3] ∧
    [SlotStatus.direct, .recovered, .broken].map SlotStatus.code = [1, 2, 3] ∧
    [Commissioning.fresh, .commissioned, .locked].map Commissioning.code = [0, 1, 2] ∧
    [none, some ResetKind.power, some .requested, some .parity].map causeCode = [0, 1, 2, 3] ∧
    [FeederClass.normal, .sag, .swell].map FeederClass.code = [0, 1, 2] ∧
    [RxState.hunt, .receiving, .fault].map RxState.code = [0, 1, 2] ∧
    [ConverterState.settling, .ready, .converting, .halted].map ConverterState.code = [0, 1, 2, 3] ∧
    [ChannelState.openChannel, .holdOff].map ChannelState.code = [0, 1] ∧
    [Machine.Alignment.unaligned, .aligned].map Machine.Alignment.code = [0, 1] ∧
    [TxState.idle, .waiting, .sending, .echo, .suspended].map TxState.code = [0, 1, 2, 3, 4] ∧
    [Condition.good, .defective].map Condition.code = [0, 1] ∧
    [LockClass.blank, .marked, .spoilt].map LockClass.code = [0, 1, 2] ∧
    [OperatingState.start, .run, .holdUp].map OperatingState.code = [0, 1, 2] ∧
    [Mains.present, .lost].map Mains.code = [0, 1] ∧
    [ResetPending.none, .requested, .parity].map ResetPending.code = [0, 1, 2] ∧
    [PortState.wait, .receiving, .executing, .responding].map PortState.code = [0, 1, 2, 3]) ∧
  (∀ t : Store, (t.failed = true → t.stateCode = 3) ∧ (t.failed = false →
    (t.op = none → t.stateCode = 0) ∧
    (∀ n v body bytes final, t.op = some (.programConfig body) ∨ t.op = some (.programLock v) ∨
      t.op = some (.programSlot n bytes 1 final) ∨ t.op = some (.programSlot n bytes 2 final) → t.stateCode = 1) ∧
    (∀ k n body r, t.op = some (.eraseConfig body n) ∨ t.op = some (.eraseSector k n r) → t.stateCode = 2))) ∧
  (∀ s : State, s.supervisor.powered = true → s.supervisor.op ≠ .start → s.port.state = .wait →
    (s.meter.countersOk = true → s.reckoning.lastParity = true →
      exec .status s = .next { s with
        port := answered s.port ⟨0x01#8, []⟩ (0#8 :: State.statusBlock
          { s with port := { s.port with state := .executing, held := some ⟨0x01#8, []⟩, begun := false } }) }) ∧
    (s.account.parity = true → exec .account s = .next { s with
      port := answered s.port ⟨0x02#8, []⟩ (0#8 :: s.account.ledger.bytes) }) ∧
    (∀ n : Byte, 1 ≤ n.toNat → n.toNat ≤ 4 →
      exec (.peekRecords n) s = .next { s with
        port := answered s.port ⟨0x03#8, [n]⟩ (0#8 :: BitVec.ofNat 8 s.queue.records.length ::
          BitVec.ofNat 8 (s.queue.records.take n.toNat).length ::
          ((s.queue.records.take n.toNat).map SettlementRecord.bytes).flatten) } ∧
      exec (.takeRecords n) s = .next { s with
        queue := { s.queue with records := s.queue.records.drop n.toNat }
        port := answered s.port ⟨0x04#8, [n]⟩ (0#8 :: BitVec.ofNat 8 (s.queue.records.drop n.toNat).length ::
          BitVec.ofNat 8 (s.queue.records.take n.toNat).length ::
          ((s.queue.records.take n.toNat).map SettlementRecord.bytes).flatten) }) ∧
    (∀ n : Byte, n.toNat = 0 ∨ 4 < n.toNat →
      exec (.peekRecords n) s = .next { s with port := answered s.port ⟨0x03#8, [n]⟩ [4#8, 1#8] } ∧
      exec (.takeRecords n) s = .next { s with port := answered s.port ⟨0x04#8, [n]⟩ [4#8, 1#8] }) ∧
    (∀ i : Byte, i.toNat ≤ 47 →
      ((∀ e ∈ s.peers.entries, e.parity = true) → ∃ xs left, s.peers.entries.drop i.toNat = xs ++ left ∧
        xs.length ≤ 8 ∧ (xs.map Entry.bytes).flatten.length ≤ 251 ∧
        (∀ e more, left = e :: more → xs.length = 8 ∨ 251 < ((xs ++ [e]).map Entry.bytes).flatten.length) ∧
        exec (.peers i) s = .next { s with
          port := answered s.port ⟨0x05#8, [i]⟩ (0#8 :: BitVec.ofNat 8 s.peers.entries.length :: i ::
            BitVec.ofNat 8 xs.length :: (xs.map Entry.bytes).flatten) }) ∧
      (∀ e, i.toNat = 0 → s.peers.entries = [e] → e.parity = false → e.bytes.length ≤ 251 →
        exec (.peers i) s = .next { s with
          peers := { s.peers with
            entries := []
            counters := { s.peers.counters with
              parityDiscards := min 65535 (s.peers.counters.parityDiscards + 1) } }
          port := answered s.port ⟨0x05#8, [i]⟩ [0#8, 0#8, i, 0#8] })) ∧
    (∀ i : Byte, 47 < i.toNat →
      exec (.peers i) s = .next { s with port := answered s.port ⟨0x05#8, [i]⟩ [4#8, 1#8] }))

/-- The requests that change the node, outside START: COMMISSION with every field accepted and the store IDLE begins
the erase and waits; LOCK with the lock place BLANK begins the marker's program and waits; CLOSE-PERIOD freezes the
period and opens the next, from the interval after the last reckoned one or from 0 with none, in every store state,
with a checkpoint request that a FAILED store refuses; RESTART-BLOCK SENSE resettles the converter, or leaves it
HALTED in HOLD-UP, and counts a conversion in flight as discarded; LINE empties the queue, clears the counters and
leaves the transmit side IDLE, or SUSPENDED where it was, with a copy in WAITING, SENDING or ECHO counted missed;
another selector is BAD-VALUE with index 1; RESTART-NODE on a FRESH node or with the store FAILED answers NOT-WRITTEN
with a REQUESTED reset pending, and on any other has it pending, asks the store for a final checkpoint and waits for
its report. The refusals: COMMISSION LOCKED, BAD-VALUE with the first bad field's index, BUSY; LOCK NOT-COMMISSIONED,
LOCKED, BUSY, and STORE-FAILED with the lock place SPOILT; CLOSE-PERIOD NOT-COMMISSIONED. The fields of a COMMISSION
body stand at the offsets of the configuration record, and the index of a refusal is that of the first field outside
its accepted range (R215, R57, R123, R139, R153, R164, R166, R173, R163, R186, R191, R197, R201, R202, R203, R204,
R205). Conventions of the model, no rules of the spec: log 18, log 29, log 31, log 51, log 54, log 55,
log 58. -/
def Obligations.ChangingRequestsAreCarriedOut : Prop :=
  ∀ s : State, s.supervisor.powered = true → s.supervisor.op ≠ .start → s.port.state = .wait →
    (∀ body : List Byte, body.length = 96 → s.store.commissioning ≠ .locked →
      (Configuration.ofBytes body).firstBad s.clock.c s.reckoning.last = none → s.store.op = none →
      s.store.failed = false →
      exec (.commission body) s = .next { s with
        store := { s.store with op := some (.eraseConfig body 1) }
        port := { s.port with state := .executing, held := some ⟨0x06#8, body⟩, begun := true } }) ∧
    (∀ w, s.store.commissioning = .commissioned → s.store.lock = .blank → s.store.working = some w →
      s.store.op = none → s.store.failed = false →
      exec .lock s = .next { s with
        store := { s.store with op := some (.programLock w.check) }
        port := { s.port with state := .executing, held := some ⟨0x07#8, []⟩, begun := true } }) ∧
    (∀ (opening : Nat) (x : Ledger) (lim : Bool) (t : Store), s.store.commissioning ≠ .fresh →
      s.account.parity = true → (s.reckoning.last = none → opening = 0) →
      (∀ k, s.reckoning.last = some k → opening = k + 1 ∧ k < 4294967295) →
      x = { period := (s.account.ledger.period + 1) % 2 ^ 32, opening := opening
            figures := ⟨0, false, 0, 0, 0, 0, 0, 0, 0, 0, 0, 0, 0⟩
            summary := some
              { period := s.account.ledger.period, opening := s.account.ledger.opening, closing := s.reckoning.last
                figures := s.account.ledger.figures, lost := s.queue.lost } } →
      LimLevel s 0 lim →
      (s.store.failed = true ∧ t = { s.store with
          counters := { s.store.counters with refused := min 65535 (s.store.counters.refused + 1) } }) ∨
        (s.store.failed = false ∧ s.store.op ≠ none ∧ s.store.pending = false ∧ t = { s.store with pending := true }) ∨
        (s.store.failed = false ∧ s.store.op ≠ none ∧ s.store.pending = true ∧ t = { s.store with
          counters := { s.store.counters with merged := min 65535 (s.store.counters.merged + 1) } }) ∨
        (s.store.failed = false ∧ s.store.op = none ∧ s.supervisor.resetPending = .none ∧
          s.store.array.eraseNeeded s.store.pointer = true ∧
          t = { s.store with op := some (.eraseSector (s.store.pointer / 16) 1 none) }) ∨
        (s.store.failed = false ∧ s.store.op = none ∧ s.supervisor.resetPending = .none ∧
          s.store.array.eraseNeeded s.store.pointer = false ∧ s.buildOk = true ∧ t = { s.store with
            pending := false
            op := some (.programSlot s.store.pointer (recordNow s s.store.nextSeq x).bytes 1 s.store.finalOwed) }) →
      exec .closePeriod s = .next { s with
        account := { s.account with ledger := x }
        queue := { s.queue with lost := 0 }
        outputs := { s.outputs with lim := lim }
        store := t
        port := answered s.port ⟨0x08#8, []⟩ (0#8 :: (beBytes 4 x.period ++ beBytes 4 x.opening)) }) ∧
    (∀ p v, s.store.commissioning ≠ .fresh → s.store.failed = false → s.supervisor.resetPending = .none →
      p = { s.port with state := .executing, held := some ⟨0x0A#8, []⟩, begun := true } →
      v = { s.supervisor with resetPending := .requested, finalAwaited := true } →
      (s.store.op = none → s.store.array.eraseNeeded s.store.pointer = false → s.buildOk = true →
        exec .restartNode s = .next { s with
          port := p, supervisor := v
          store := { s.store with
            finalOwed := true, pending := false
            op := some (.programSlot s.store.pointer (recordNow s s.store.nextSeq s.account.ledger).bytes 1 true) } }) ∧
      (s.store.op = none → s.store.array.eraseNeeded s.store.pointer = true →
        exec .restartNode s = .next { s with
          port := p, supervisor := v
          store := { s.store with
            finalOwed := true, op := some (.eraseSector (s.store.pointer / 16) 1 none) } }) ∧
      (s.store.op ≠ none → s.store.pending = false →
        exec .restartNode s = .next { s with
          port := p, supervisor := v, store := { s.store with finalOwed := true, pending := true } })) ∧
    (∀ body : List Byte, body.length = 96 → s.store.commissioning = .locked →
      exec (.commission body) s = .next { s with port := answered s.port ⟨0x06#8, body⟩ [2#8] }) ∧
    (∀ (body : List Byte) (i : Nat), body.length = 96 → s.store.commissioning ≠ .locked →
      (Configuration.ofBytes body).firstBad s.clock.c s.reckoning.last = some i →
      exec (.commission body) s = .next { s with port := answered s.port ⟨0x06#8, body⟩ [4#8, BitVec.ofNat 8 i] }) ∧
    (∀ body : List Byte, body.length = 96 → s.store.commissioning ≠ .locked →
      (Configuration.ofBytes body).firstBad s.clock.c s.reckoning.last = none →
      s.store.op ≠ none ∨ s.store.failed = true →
      exec (.commission body) s = .next { s with port := answered s.port ⟨0x06#8, body⟩ [1#8] }) ∧
    (s.store.commissioning = .fresh → exec .lock s = .next { s with port := answered s.port ⟨0x07#8, []⟩ [3#8] } ∧
      exec .closePeriod s = .next { s with port := answered s.port ⟨0x08#8, []⟩ [3#8] }) ∧
    (s.store.commissioning = .locked → exec .lock s = .next { s with port := answered s.port ⟨0x07#8, []⟩ [2#8] }) ∧
    (s.store.commissioning = .commissioned →
      (s.store.op ≠ none ∨ s.store.failed = true →
        exec .lock s = .next { s with port := answered s.port ⟨0x07#8, []⟩ [1#8] }) ∧
      (s.store.op = none → s.store.failed = false → s.store.lock = .spoilt →
        exec .lock s = .next { s with port := answered s.port ⟨0x07#8, []⟩ [6#8] })) ∧
    (∀ (tx : TxState) (missed : Nat), (s.link.tx = .suspended → tx = .suspended ∧ missed = 0) →
      (s.link.tx = .idle → tx = .idle ∧ missed = 0) →
      (s.link.tx = .waiting ∨ s.link.tx = .sending ∨ s.link.tx = .echo → tx = .idle ∧ missed = 1) →
      exec (.restartBlock 1#8) s = .next { s with
        link := { s.link with
          rx := .hunt, assembly := [], stall := none, queue := [], tx := tx, req := false, copy := none
          deferLimit := none, echoWindow := none, echoReference := none
          counters := { good := 0, checkFailures := 0, stalls := 0, overruns := 0, breaks := 0, sent := 0
                        missed := missed, collisions := 0 } }
        port := answered s.port ⟨0x09#8, [1#8]⟩ [0#8] }) ∧
    (∀ discarded : Nat, (s.supply.flight = none → discarded = s.supply.discarded) →
      (s.supply.flight ≠ none → discarded = min 65535 (s.supply.discarded + 1)) →
      (s.supervisor.op = .run → exec (.restartBlock 2#8) s = .next { s with
        supply := { s.supply with
          flight := none, discarded := discarded, senseFault := false, inBandRun := 0, sequence := 0
          converter := .settling, settling := .running 2000, periodCount := 0, startDue := false }
        port := answered s.port ⟨0x09#8, [2#8]⟩ [0#8] }) ∧
      (s.supervisor.op = .holdUp → exec (.restartBlock 2#8) s = .next { s with
        supply := { s.supply with
          flight := none, discarded := discarded, senseFault := false, inBandRun := 0, sequence := 0
          converter := .halted, settling := .stopped, periodCount := 0, startDue := false }
        port := answered s.port ⟨0x09#8, [2#8]⟩ [0#8] })) ∧
    (∀ b : Byte, b ≠ 1#8 → b ≠ 2#8 →
      exec (.restartBlock b) s = .next { s with port := answered s.port ⟨0x09#8, [b]⟩ [4#8, 1#8] }) ∧
    (∀ (body : List Byte) (g : Configuration) (at' : Nat → Nat) (floor : Nat), body.length = 96 →
      g = Configuration.ofBytes body → (∀ i, at' i = (body.getD i 0#8).toNat) →
      floor = ((((at' 90 * 256 + at' 91) * 256 + at' 92) * 256 + at' 93) * 256 + at' 94) * 256 + at' 95 →
      g.cooperative = at' 0 * 256 + at' 1 ∧ g.nodeId = at' 2 ∧ g.lengthCode = at' 3 ∧
      g.startInterval = ((at' 4 * 256 + at' 5) * 256 + at' 6) * 256 + at' 7 ∧
      g.startRemaining = at' 8 * 256 + at' 9 ∧ g.importWeight = at' 10 ∧ g.exportWeight = at' 11 ∧
      g.spacing = at' 12 * 256 + at' 13 ∧ g.copies = at' 14 ∧ g.guardSeconds = at' 15 ∧ g.quorum = at' 16 ∧
      g.levy = at' 17 * 256 + at' 18 ∧
      g.bandMap.length = 24 ∧ (∀ h, h < 24 → g.bandMap.getD h 0 = at' (19 + h)) ∧
      g.prices.length = 20 ∧ (∀ p, p < 20 → g.prices.getD p 0 = at' (43 + 2 * p) * 256 + at' (44 + 2 * p)) ∧
      g.accumulationCode = at' 83 ∧ g.sensePeriod = at' 84 ∧ g.windowLow = at' 85 * 256 + at' 86 ∧
      g.windowHigh = at' 87 * 256 + at' 88 ∧ g.strain = at' 89 ∧
      (floor < 2 ^ 47 → g.limitFloor = floor) ∧ (2 ^ 47 ≤ floor → g.limitFloor = (floor : Int) - 2 ^ 48)) ∧
    (∀ (g : Configuration) (c : Nat) (last : Option Nat) (accepted : Nat → Prop), g.bandMap.length = 24 →
      (accepted 1 ↔ 1 ≤ g.cooperative ∧ g.cooperative ≤ 65535) → (accepted 2 ↔ 1 ≤ g.nodeId ∧ g.nodeId ≤ 250) →
      (accepted 3 ↔ g.lengthCode ≤ 4) →
      (accepted 4 ↔ c ≤ g.startInterval ∧ ∀ k, last = some k → k < g.startInterval) →
      (accepted 5 ↔ 1 ≤ g.startRemaining ∧ g.startRemaining ≤ intervalLength g.lengthCode) →
      (accepted 6 ↔ 1 ≤ g.importWeight ∧ g.importWeight ≤ 100) →
      (accepted 7 ↔ 1 ≤ g.exportWeight ∧ g.exportWeight ≤ 100) → (accepted 8 ↔ 20 ≤ g.spacing ∧ g.spacing ≤ 2000) →
      (accepted 9 ↔ 2 ≤ g.copies ∧ g.copies ≤ 4) → (accepted 10 ↔ 10 ≤ g.guardSeconds ∧ g.guardSeconds ≤ 120) →
      (accepted 11 ↔ g.quorum ≤ 100) → (accepted 12 ↔ g.levy ≤ 1000) →
      (∀ h, h < 24 → (accepted (13 + h) ↔ g.bandMap.getD h 0 ≤ 3)) → (∀ p, p < 20 → accepted (37 + p)) →
      (accepted 57 ↔ g.accumulationCode ≤ 7) → (accepted 58 ↔ 2 ≤ g.sensePeriod ∧ g.sensePeriod ≤ 60) →
      accepted 59 → (accepted 60 ↔ g.windowLow ≤ g.windowHigh) → (accepted 61 ↔ 1 ≤ g.strain ∧ g.strain ≤ 15) →
      (accepted 62 ↔ -140737488355327 ≤ g.limitFloor ∧ g.limitFloor ≤ 0) →
      (g.firstBad c last = none ↔ ∀ i, 1 ≤ i → i ≤ 62 → accepted i) ∧
      (∀ i, g.firstBad c last = some i ↔
        1 ≤ i ∧ i ≤ 62 ∧ ¬ accepted i ∧ ∀ k, 1 ≤ k → k < i → accepted k)) ∧
    (s.store.commissioning = .fresh ∨ s.store.failed = true → s.supervisor.resetPending = .none →
      ∃ t, exec .restartNode s = .next t ∧ t.supervisor.resetPending = .requested ∧
        t.supervisor.finalAwaited = false ∧ t.supervisor.outcome = some .notWritten ∧
        t.port = answered s.port ⟨0x0A#8, []⟩ [0#8, 1#8] ∧ t.meter = s.meter ∧ t.clock = s.clock)

/-- CLEAR-CAUSE, held for execution, is handed to the supervisor, which clears the cause record in the same event, and
the response is OK; in every commissioning state and while a reset is pending (R207). -/
def Obligations.ClearCauseClearsTheRecord : Prop :=
  ∀ s : State, s.supervisor.powered = true → s.supervisor.op ≠ .start → s.port.state = .executing →
    s.port.held = some ⟨0x0B#8, []⟩ → s.port.begun = false →
    exec .clearCause s = .next { s with
      supervisor := { s.supervisor with
        cause := { last := none, requested := 0, parity := 0, duplicateId := false } }
      port := { s.port with
        state := .responding, assembly := [], gap := none, response := some (envelope 0x0B#8 [0#8]) } }
end

