-- ==== Sys2Proof/Laws/State.lean ====
section
/-! SUPPORT. One lemma per field of State and per block replaced, so that no proof unfolds a record update. -/

namespace Sys2Proof.Machine.State

/-! `setPins` -/

section
variable (s : State) (v : Pins)

@[simp] theorem setPins_pins : (s.setPins v).pins = v := rfl
@[simp] theorem setPins_meter : (s.setPins v).meter = s.meter := rfl
@[simp] theorem setPins_clock : (s.setPins v).clock = s.clock := rfl
@[simp] theorem setPins_link : (s.setPins v).link = s.link := rfl
@[simp] theorem setPins_peers : (s.setPins v).peers = s.peers := rfl
@[simp] theorem setPins_reckoning : (s.setPins v).reckoning = s.reckoning := rfl
@[simp] theorem setPins_supply : (s.setPins v).supply = s.supply := rfl
@[simp] theorem setPins_account : (s.setPins v).account = s.account := rfl
@[simp] theorem setPins_queue : (s.setPins v).queue = s.queue := rfl
@[simp] theorem setPins_outputs : (s.setPins v).outputs = s.outputs := rfl
@[simp] theorem setPins_store : (s.setPins v).store = s.store := rfl
@[simp] theorem setPins_supervisor : (s.setPins v).supervisor = s.supervisor := rfl
@[simp] theorem setPins_port : (s.setPins v).port = s.port := rfl
@[simp] theorem setPins_freeCount : (s.setPins v).freeCount = s.freeCount := rfl
@[simp] theorem setPins_pending : (s.setPins v).pending = s.pending := rfl

end

/-! `setMeter` -/

section
variable (s : State) (v : Meter)

@[simp] theorem setMeter_pins : (s.setMeter v).pins = s.pins := rfl
@[simp] theorem setMeter_meter : (s.setMeter v).meter = v := rfl
@[simp] theorem setMeter_clock : (s.setMeter v).clock = s.clock := rfl
@[simp] theorem setMeter_link : (s.setMeter v).link = s.link := rfl
@[simp] theorem setMeter_peers : (s.setMeter v).peers = s.peers := rfl
@[simp] theorem setMeter_reckoning : (s.setMeter v).reckoning = s.reckoning := rfl
@[simp] theorem setMeter_supply : (s.setMeter v).supply = s.supply := rfl
@[simp] theorem setMeter_account : (s.setMeter v).account = s.account := rfl
@[simp] theorem setMeter_queue : (s.setMeter v).queue = s.queue := rfl
@[simp] theorem setMeter_outputs : (s.setMeter v).outputs = s.outputs := rfl
@[simp] theorem setMeter_store : (s.setMeter v).store = s.store := rfl
@[simp] theorem setMeter_supervisor : (s.setMeter v).supervisor = s.supervisor := rfl
@[simp] theorem setMeter_port : (s.setMeter v).port = s.port := rfl
@[simp] theorem setMeter_freeCount : (s.setMeter v).freeCount = s.freeCount := rfl
@[simp] theorem setMeter_pending : (s.setMeter v).pending = s.pending := rfl

end

/-! `setClock` -/

section
variable (s : State) (v : Clock)

@[simp] theorem setClock_pins : (s.setClock v).pins = s.pins := rfl
@[simp] theorem setClock_meter : (s.setClock v).meter = s.meter := rfl
@[simp] theorem setClock_clock : (s.setClock v).clock = v := rfl
@[simp] theorem setClock_link : (s.setClock v).link = s.link := rfl
@[simp] theorem setClock_peers : (s.setClock v).peers = s.peers := rfl
@[simp] theorem setClock_reckoning : (s.setClock v).reckoning = s.reckoning := rfl
@[simp] theorem setClock_supply : (s.setClock v).supply = s.supply := rfl
@[simp] theorem setClock_account : (s.setClock v).account = s.account := rfl
@[simp] theorem setClock_queue : (s.setClock v).queue = s.queue := rfl
@[simp] theorem setClock_outputs : (s.setClock v).outputs = s.outputs := rfl
@[simp] theorem setClock_store : (s.setClock v).store = s.store := rfl
@[simp] theorem setClock_supervisor : (s.setClock v).supervisor = s.supervisor := rfl
@[simp] theorem setClock_port : (s.setClock v).port = s.port := rfl
@[simp] theorem setClock_freeCount : (s.setClock v).freeCount = s.freeCount := rfl
@[simp] theorem setClock_pending : (s.setClock v).pending = s.pending := rfl

end

/-! `setLink` -/

section
variable (s : State) (v : Link)

@[simp] theorem setLink_pins : (s.setLink v).pins = s.pins := rfl
@[simp] theorem setLink_meter : (s.setLink v).meter = s.meter := rfl
@[simp] theorem setLink_clock : (s.setLink v).clock = s.clock := rfl
@[simp] theorem setLink_link : (s.setLink v).link = v := rfl
@[simp] theorem setLink_peers : (s.setLink v).peers = s.peers := rfl
@[simp] theorem setLink_reckoning : (s.setLink v).reckoning = s.reckoning := rfl
@[simp] theorem setLink_supply : (s.setLink v).supply = s.supply := rfl
@[simp] theorem setLink_account : (s.setLink v).account = s.account := rfl
@[simp] theorem setLink_queue : (s.setLink v).queue = s.queue := rfl
@[simp] theorem setLink_outputs : (s.setLink v).outputs = s.outputs := rfl
@[simp] theorem setLink_store : (s.setLink v).store = s.store := rfl
@[simp] theorem setLink_supervisor : (s.setLink v).supervisor = s.supervisor := rfl
@[simp] theorem setLink_port : (s.setLink v).port = s.port := rfl
@[simp] theorem setLink_freeCount : (s.setLink v).freeCount = s.freeCount := rfl
@[simp] theorem setLink_pending : (s.setLink v).pending = s.pending := rfl

end

/-! `setPeers` -/

section
variable (s : State) (v : Peers)

@[simp] theorem setPeers_pins : (s.setPeers v).pins = s.pins := rfl
@[simp] theorem setPeers_meter : (s.setPeers v).meter = s.meter := rfl
@[simp] theorem setPeers_clock : (s.setPeers v).clock = s.clock := rfl
@[simp] theorem setPeers_link : (s.setPeers v).link = s.link := rfl
@[simp] theorem setPeers_peers : (s.setPeers v).peers = v := rfl
@[simp] theorem setPeers_reckoning : (s.setPeers v).reckoning = s.reckoning := rfl
@[simp] theorem setPeers_supply : (s.setPeers v).supply = s.supply := rfl
@[simp] theorem setPeers_account : (s.setPeers v).account = s.account := rfl
@[simp] theorem setPeers_queue : (s.setPeers v).queue = s.queue := rfl
@[simp] theorem setPeers_outputs : (s.setPeers v).outputs = s.outputs := rfl
@[simp] theorem setPeers_store : (s.setPeers v).store = s.store := rfl
@[simp] theorem setPeers_supervisor : (s.setPeers v).supervisor = s.supervisor := rfl
@[simp] theorem setPeers_port : (s.setPeers v).port = s.port := rfl
@[simp] theorem setPeers_freeCount : (s.setPeers v).freeCount = s.freeCount := rfl
@[simp] theorem setPeers_pending : (s.setPeers v).pending = s.pending := rfl

end

/-! `setReckoning` -/

section
variable (s : State) (v : Reckoning)

@[simp] theorem setReckoning_pins : (s.setReckoning v).pins = s.pins := rfl
@[simp] theorem setReckoning_meter : (s.setReckoning v).meter = s.meter := rfl
@[simp] theorem setReckoning_clock : (s.setReckoning v).clock = s.clock := rfl
@[simp] theorem setReckoning_link : (s.setReckoning v).link = s.link := rfl
@[simp] theorem setReckoning_peers : (s.setReckoning v).peers = s.peers := rfl
@[simp] theorem setReckoning_reckoning : (s.setReckoning v).reckoning = v := rfl
@[simp] theorem setReckoning_supply : (s.setReckoning v).supply = s.supply := rfl
@[simp] theorem setReckoning_account : (s.setReckoning v).account = s.account := rfl
@[simp] theorem setReckoning_queue : (s.setReckoning v).queue = s.queue := rfl
@[simp] theorem setReckoning_outputs : (s.setReckoning v).outputs = s.outputs := rfl
@[simp] theorem setReckoning_store : (s.setReckoning v).store = s.store := rfl
@[simp] theorem setReckoning_supervisor : (s.setReckoning v).supervisor = s.supervisor := rfl
@[simp] theorem setReckoning_port : (s.setReckoning v).port = s.port := rfl
@[simp] theorem setReckoning_freeCount : (s.setReckoning v).freeCount = s.freeCount := rfl
@[simp] theorem setReckoning_pending : (s.setReckoning v).pending = s.pending := rfl

end

/-! `setSupply` -/

section
variable (s : State) (v : Supply)

@[simp] theorem setSupply_pins : (s.setSupply v).pins = s.pins := rfl
@[simp] theorem setSupply_meter : (s.setSupply v).meter = s.meter := rfl
@[simp] theorem setSupply_clock : (s.setSupply v).clock = s.clock := rfl
@[simp] theorem setSupply_link : (s.setSupply v).link = s.link := rfl
@[simp] theorem setSupply_peers : (s.setSupply v).peers = s.peers := rfl
@[simp] theorem setSupply_reckoning : (s.setSupply v).reckoning = s.reckoning := rfl
@[simp] theorem setSupply_supply : (s.setSupply v).supply = v := rfl
@[simp] theorem setSupply_account : (s.setSupply v).account = s.account := rfl
@[simp] theorem setSupply_queue : (s.setSupply v).queue = s.queue := rfl
@[simp] theorem setSupply_outputs : (s.setSupply v).outputs = s.outputs := rfl
@[simp] theorem setSupply_store : (s.setSupply v).store = s.store := rfl
@[simp] theorem setSupply_supervisor : (s.setSupply v).supervisor = s.supervisor := rfl
@[simp] theorem setSupply_port : (s.setSupply v).port = s.port := rfl
@[simp] theorem setSupply_freeCount : (s.setSupply v).freeCount = s.freeCount := rfl
@[simp] theorem setSupply_pending : (s.setSupply v).pending = s.pending := rfl

end

/-! `setAccount` -/

section
variable (s : State) (v : Account)

@[simp] theorem setAccount_pins : (s.setAccount v).pins = s.pins := rfl
@[simp] theorem setAccount_meter : (s.setAccount v).meter = s.meter := rfl
@[simp] theorem setAccount_clock : (s.setAccount v).clock = s.clock := rfl
@[simp] theorem setAccount_link : (s.setAccount v).link = s.link := rfl
@[simp] theorem setAccount_peers : (s.setAccount v).peers = s.peers := rfl
@[simp] theorem setAccount_reckoning : (s.setAccount v).reckoning = s.reckoning := rfl
@[simp] theorem setAccount_supply : (s.setAccount v).supply = s.supply := rfl
@[simp] theorem setAccount_account : (s.setAccount v).account = v := rfl
@[simp] theorem setAccount_queue : (s.setAccount v).queue = s.queue := rfl
@[simp] theorem setAccount_outputs : (s.setAccount v).outputs = s.outputs := rfl
@[simp] theorem setAccount_store : (s.setAccount v).store = s.store := rfl
@[simp] theorem setAccount_supervisor : (s.setAccount v).supervisor = s.supervisor := rfl
@[simp] theorem setAccount_port : (s.setAccount v).port = s.port := rfl
@[simp] theorem setAccount_freeCount : (s.setAccount v).freeCount = s.freeCount := rfl
@[simp] theorem setAccount_pending : (s.setAccount v).pending = s.pending := rfl

end

/-! `setQueue` -/

section
variable (s : State) (v : SettlementQueue)

@[simp] theorem setQueue_pins : (s.setQueue v).pins = s.pins := rfl
@[simp] theorem setQueue_meter : (s.setQueue v).meter = s.meter := rfl
@[simp] theorem setQueue_clock : (s.setQueue v).clock = s.clock := rfl
@[simp] theorem setQueue_link : (s.setQueue v).link = s.link := rfl
@[simp] theorem setQueue_peers : (s.setQueue v).peers = s.peers := rfl
@[simp] theorem setQueue_reckoning : (s.setQueue v).reckoning = s.reckoning := rfl
@[simp] theorem setQueue_supply : (s.setQueue v).supply = s.supply := rfl
@[simp] theorem setQueue_account : (s.setQueue v).account = s.account := rfl
@[simp] theorem setQueue_queue : (s.setQueue v).queue = v := rfl
@[simp] theorem setQueue_outputs : (s.setQueue v).outputs = s.outputs := rfl
@[simp] theorem setQueue_store : (s.setQueue v).store = s.store := rfl
@[simp] theorem setQueue_supervisor : (s.setQueue v).supervisor = s.supervisor := rfl
@[simp] theorem setQueue_port : (s.setQueue v).port = s.port := rfl
@[simp] theorem setQueue_freeCount : (s.setQueue v).freeCount = s.freeCount := rfl
@[simp] theorem setQueue_pending : (s.setQueue v).pending = s.pending := rfl

end

/-! `setOutputs` -/

section
variable (s : State) (v : Outputs)

@[simp] theorem setOutputs_pins : (s.setOutputs v).pins = s.pins := rfl
@[simp] theorem setOutputs_meter : (s.setOutputs v).meter = s.meter := rfl
@[simp] theorem setOutputs_clock : (s.setOutputs v).clock = s.clock := rfl
@[simp] theorem setOutputs_link : (s.setOutputs v).link = s.link := rfl
@[simp] theorem setOutputs_peers : (s.setOutputs v).peers = s.peers := rfl
@[simp] theorem setOutputs_reckoning : (s.setOutputs v).reckoning = s.reckoning := rfl
@[simp] theorem setOutputs_supply : (s.setOutputs v).supply = s.supply := rfl
@[simp] theorem setOutputs_account : (s.setOutputs v).account = s.account := rfl
@[simp] theorem setOutputs_queue : (s.setOutputs v).queue = s.queue := rfl
@[simp] theorem setOutputs_outputs : (s.setOutputs v).outputs = v := rfl
@[simp] theorem setOutputs_store : (s.setOutputs v).store = s.store := rfl
@[simp] theorem setOutputs_supervisor : (s.setOutputs v).supervisor = s.supervisor := rfl
@[simp] theorem setOutputs_port : (s.setOutputs v).port = s.port := rfl
@[simp] theorem setOutputs_freeCount : (s.setOutputs v).freeCount = s.freeCount := rfl
@[simp] theorem setOutputs_pending : (s.setOutputs v).pending = s.pending := rfl

end

/-! `setStore` -/

section
variable (s : State) (v : Store)

@[simp] theorem setStore_pins : (s.setStore v).pins = s.pins := rfl
@[simp] theorem setStore_meter : (s.setStore v).meter = s.meter := rfl
@[simp] theorem setStore_clock : (s.setStore v).clock = s.clock := rfl
@[simp] theorem setStore_link : (s.setStore v).link = s.link := rfl
@[simp] theorem setStore_peers : (s.setStore v).peers = s.peers := rfl
@[simp] theorem setStore_reckoning : (s.setStore v).reckoning = s.reckoning := rfl
@[simp] theorem setStore_supply : (s.setStore v).supply = s.supply := rfl
@[simp] theorem setStore_account : (s.setStore v).account = s.account := rfl
@[simp] theorem setStore_queue : (s.setStore v).queue = s.queue := rfl
@[simp] theorem setStore_outputs : (s.setStore v).outputs = s.outputs := rfl
@[simp] theorem setStore_store : (s.setStore v).store = v := rfl
@[simp] theorem setStore_supervisor : (s.setStore v).supervisor = s.supervisor := rfl
@[simp] theorem setStore_port : (s.setStore v).port = s.port := rfl
@[simp] theorem setStore_freeCount : (s.setStore v).freeCount = s.freeCount := rfl
@[simp] theorem setStore_pending : (s.setStore v).pending = s.pending := rfl

end

/-! `setSupervisor` -/

section
variable (s : State) (v : Supervisor)

@[simp] theorem setSupervisor_pins : (s.setSupervisor v).pins = s.pins := rfl
@[simp] theorem setSupervisor_meter : (s.setSupervisor v).meter = s.meter := rfl
@[simp] theorem setSupervisor_clock : (s.setSupervisor v).clock = s.clock := rfl
@[simp] theorem setSupervisor_link : (s.setSupervisor v).link = s.link := rfl
@[simp] theorem setSupervisor_peers : (s.setSupervisor v).peers = s.peers := rfl
@[simp] theorem setSupervisor_reckoning : (s.setSupervisor v).reckoning = s.reckoning := rfl
@[simp] theorem setSupervisor_supply : (s.setSupervisor v).supply = s.supply := rfl
@[simp] theorem setSupervisor_account : (s.setSupervisor v).account = s.account := rfl
@[simp] theorem setSupervisor_queue : (s.setSupervisor v).queue = s.queue := rfl
@[simp] theorem setSupervisor_outputs : (s.setSupervisor v).outputs = s.outputs := rfl
@[simp] theorem setSupervisor_store : (s.setSupervisor v).store = s.store := rfl
@[simp] theorem setSupervisor_supervisor : (s.setSupervisor v).supervisor = v := rfl
@[simp] theorem setSupervisor_port : (s.setSupervisor v).port = s.port := rfl
@[simp] theorem setSupervisor_freeCount : (s.setSupervisor v).freeCount = s.freeCount := rfl
@[simp] theorem setSupervisor_pending : (s.setSupervisor v).pending = s.pending := rfl

end

/-! `setPort` -/

section
variable (s : State) (v : Port)

@[simp] theorem setPort_pins : (s.setPort v).pins = s.pins := rfl
@[simp] theorem setPort_meter : (s.setPort v).meter = s.meter := rfl
@[simp] theorem setPort_clock : (s.setPort v).clock = s.clock := rfl
@[simp] theorem setPort_link : (s.setPort v).link = s.link := rfl
@[simp] theorem setPort_peers : (s.setPort v).peers = s.peers := rfl
@[simp] theorem setPort_reckoning : (s.setPort v).reckoning = s.reckoning := rfl
@[simp] theorem setPort_supply : (s.setPort v).supply = s.supply := rfl
@[simp] theorem setPort_account : (s.setPort v).account = s.account := rfl
@[simp] theorem setPort_queue : (s.setPort v).queue = s.queue := rfl
@[simp] theorem setPort_outputs : (s.setPort v).outputs = s.outputs := rfl
@[simp] theorem setPort_store : (s.setPort v).store = s.store := rfl
@[simp] theorem setPort_supervisor : (s.setPort v).supervisor = s.supervisor := rfl
@[simp] theorem setPort_port : (s.setPort v).port = v := rfl
@[simp] theorem setPort_freeCount : (s.setPort v).freeCount = s.freeCount := rfl
@[simp] theorem setPort_pending : (s.setPort v).pending = s.pending := rfl

end

/-! `setFree` -/

section
variable (s : State) (v : Nat)

@[simp] theorem setFree_pins : (s.setFree v).pins = s.pins := rfl
@[simp] theorem setFree_meter : (s.setFree v).meter = s.meter := rfl
@[simp] theorem setFree_clock : (s.setFree v).clock = s.clock := rfl
@[simp] theorem setFree_link : (s.setFree v).link = s.link := rfl
@[simp] theorem setFree_peers : (s.setFree v).peers = s.peers := rfl
@[simp] theorem setFree_reckoning : (s.setFree v).reckoning = s.reckoning := rfl
@[simp] theorem setFree_supply : (s.setFree v).supply = s.supply := rfl
@[simp] theorem setFree_account : (s.setFree v).account = s.account := rfl
@[simp] theorem setFree_queue : (s.setFree v).queue = s.queue := rfl
@[simp] theorem setFree_outputs : (s.setFree v).outputs = s.outputs := rfl
@[simp] theorem setFree_store : (s.setFree v).store = s.store := rfl
@[simp] theorem setFree_supervisor : (s.setFree v).supervisor = s.supervisor := rfl
@[simp] theorem setFree_port : (s.setFree v).port = s.port := rfl
@[simp] theorem setFree_freeCount : (s.setFree v).freeCount = v := rfl
@[simp] theorem setFree_pending : (s.setFree v).pending = s.pending := rfl

end

/-! The notifications (R17, R30, R182, R183) -/

section
variable (n : Notice) (q : StoreNotice) (s : State)

@[simp] theorem notify_pins : (s.notify n q).pins = s.pins := rfl
@[simp] theorem notify_clock : (s.notify n q).clock = s.clock := rfl
@[simp] theorem notify_account : (s.notify n q).account = s.account := rfl
@[simp] theorem notify_queue : (s.notify n q).queue = s.queue := rfl
@[simp] theorem notify_outputs : (s.notify n q).outputs = s.outputs := rfl
@[simp] theorem notify_supervisor : (s.notify n q).supervisor = s.supervisor := rfl
@[simp] theorem notify_port : (s.notify n q).port = s.port := rfl
@[simp] theorem notify_freeCount : (s.notify n q).freeCount = s.freeCount := rfl
@[simp] theorem notify_pending : (s.notify n q).pending = s.pending := rfl

end

section
variable (s : State)

@[simp] theorem notifyEntry_pins : s.notifyEntry.pins = s.pins := rfl
@[simp] theorem notifyEntry_meter : s.notifyEntry.meter = s.meter := rfl
@[simp] theorem notifyEntry_clock : s.notifyEntry.clock = s.clock := rfl
@[simp] theorem notifyEntry_peers : s.notifyEntry.peers = s.peers := rfl
@[simp] theorem notifyEntry_reckoning : s.notifyEntry.reckoning = s.reckoning := rfl
@[simp] theorem notifyEntry_account : s.notifyEntry.account = s.account := rfl
@[simp] theorem notifyEntry_queue : s.notifyEntry.queue = s.queue := rfl
@[simp] theorem notifyEntry_supervisor : s.notifyEntry.supervisor = s.supervisor := rfl
@[simp] theorem notifyEntry_port : s.notifyEntry.port = s.port := rfl
@[simp] theorem notifyEntry_freeCount : s.notifyEntry.freeCount = s.freeCount := rfl
@[simp] theorem notifyEntry_pending : s.notifyEntry.pending = s.pending := rfl

end

section
variable (s : State)

@[simp] theorem notifyExit_pins : s.notifyExit.pins = s.pins := rfl
@[simp] theorem notifyExit_meter : s.notifyExit.meter = s.meter := rfl
@[simp] theorem notifyExit_clock : s.notifyExit.clock = s.clock := rfl
@[simp] theorem notifyExit_peers : s.notifyExit.peers = s.peers := rfl
@[simp] theorem notifyExit_reckoning : s.notifyExit.reckoning = s.reckoning := rfl
@[simp] theorem notifyExit_account : s.notifyExit.account = s.account := rfl
@[simp] theorem notifyExit_queue : s.notifyExit.queue = s.queue := rfl
@[simp] theorem notifyExit_store : s.notifyExit.store = s.store := rfl
@[simp] theorem notifyExit_supervisor : s.notifyExit.supervisor = s.supervisor := rfl
@[simp] theorem notifyExit_port : s.notifyExit.port = s.port := rfl
@[simp] theorem notifyExit_freeCount : s.notifyExit.freeCount = s.freeCount := rfl
@[simp] theorem notifyExit_pending : s.notifyExit.pending = s.pending := rfl

end

end Sys2Proof.Machine.State
end

