-- ==== Sys2Proof/Laws/Ops.lean ====
section
/-! SUPPORT. What each shared operation of Ops.lean and Household.lean can do, said once. -/

namespace Sys2Proof.Machine

/-! ### Counters -/

/-- A saturating increment is the smaller of the limit and the sum. -/
theorem satInc_eq_min (limit n : Nat) : satInc limit n = min limit (n + 1) := by
  unfold satInc; split <;> omega

theorem satInc_le (limit n : Nat) : satInc limit n ≤ limit := by
  rw [satInc_eq_min]; exact Nat.min_le_left ..

theorem count16_le (n : Nat) : count16 n ≤ max16 := satInc_le ..

theorem count32_le (n : Nat) : count32 n ≤ max32 := satInc_le ..

theorem satAdd_le (limit n k : Nat) : satAdd limit n k ≤ limit := Nat.min_le_left ..

/-! ### Power -/

/-- On a powered node a command is its effect. -/
theorem whenPowered_on {s : State} (h : s.supervisor.powered = true) (f : State → State) :
    s.whenPowered f = .next (f s) := by simp [State.whenPowered, h]

/-- In power-off a command finds no occasion. -/
theorem whenPowered_off {s : State} (h : s.supervisor.powered = false) (f : State → State) :
    s.whenPowered f = .next s := by simp [State.whenPowered, h]

/-- A command gated by power always answers a next state. -/
theorem whenPowered_goes (s : State) (f : State → State) : ∃ t, s.whenPowered f = .next t := ⟨_, rfl⟩

/-- Whatever holds of the state and of the effect's result holds of a gated command's result. -/
theorem whenPowered_preserves {P : State → Prop} {s t : State} {f : State → State}
    (h : s.whenPowered f = .next t) (hs : P s) (hf : P (f s)) : P t := by
  unfold State.whenPowered at h
  cases h
  split <;> assumption

/-! ### Notifications -/

/-- A notification of the block's own epoch, with no completion outstanding, is delivered. -/
@[simp] theorem Delivery.front_current {α : Type} {completions epoch : Nat} (h : completions ≤ epoch) (item : α)
    (rest : List Notice) : Delivery.front completions epoch epoch item rest = .delivered item rest := by
  simp [Delivery.front, show ¬ epoch < completions by omega]

/-- A notification issued before a configuration write completed is discarded, whatever the block has taken (R130). -/
@[simp] theorem Delivery.front_old {α : Type} {completions e : Nat} (h : e < completions) (epoch : Nat) (item : α)
    (rest : List Notice) : Delivery.front completions epoch e item rest = .discarded rest := by
  simp [Delivery.front, h]

/-! ### Rings -/

/-- A ring that holds a record has one of the lowest interval. -/
theorem exists_lowest {α : Type} (interval : α → Nat) : ∀ {ring : List α}, ring ≠ [] →
    ∃ y ∈ ring, ∀ z ∈ ring, interval y ≤ interval z
  | [a], _ => ⟨a, by simp, by simp⟩
  | a :: b :: rest, _ => by
    obtain ⟨y, hy, low⟩ := exists_lowest interval (ring := b :: rest) (by simp)
    by_cases h : interval a ≤ interval y
    · exact ⟨a, by simp, fun z hz => by
        rcases List.mem_cons.1 hz with rfl | hz
        · exact Nat.le_refl _
        · exact Nat.le_trans h (low z hz)⟩
    · exact ⟨y, List.mem_cons_of_mem _ hy, fun z hz => by
        rcases List.mem_cons.1 hz with rfl | hz
        · omega
        · exact low z hz⟩

/-- The first record of the lowest interval is the one that leaves. -/
theorem dropLowest_eq {α : Type} (interval : α → Nat) {ring before after : List α} {y : α}
    (split : ring = before ++ y :: after) (low : ∀ z ∈ ring, interval y ≤ interval z)
    (first : ∀ z ∈ before, interval y < interval z) : dropLowest interval ring = before ++ after := by
  have notBefore : ∀ z ∈ before, ¬ (ring.all fun w => decide (interval z ≤ interval w)) = true := by
    intro z hz all
    have := of_decide_eq_true (List.all_eq_true.1 all y (by simp [split]))
    have := first z hz
    omega
  have here : (ring.all fun w => decide (interval y ≤ interval w)) = true := by
    simpa using low
  unfold dropLowest
  conv => lhs; arg 2; rw [split]
  rw [List.eraseP_append_right _ notBefore]
  simp only [List.eraseP_cons, here, cond_true]

/-- A ring that holds a record loses exactly one. -/
theorem dropLowest_length {α : Type} (interval : α → Nat) {ring : List α} (h : ring ≠ []) :
    (dropLowest interval ring).length = ring.length - 1 := by
  obtain ⟨y, hy, low⟩ := exists_lowest interval h
  exact List.length_eraseP_of_mem hy (by simpa using low)

/-- A record enters a ring with room last. -/
theorem enterRing_room {α : Type} (interval : α → Nat) {ring : List α} (h : ring.length < ringSize) (x : α) :
    enterRing interval ring x = ring ++ [x] := by
  simp [enterRing, h]

/-- A full ring loses its first record of the lowest interval, then the record enters it last. -/
theorem enterRing_full {α : Type} (interval : α → Nat) {ring before after : List α} {y : α}
    (full : ringSize ≤ ring.length) (split : ring = before ++ y :: after)
    (low : ∀ z ∈ ring, interval y ≤ interval z) (first : ∀ z ∈ before, interval y < interval z) (x : α) :
    enterRing interval ring x = before ++ after ++ [x] := by
  rw [enterRing, if_neg (by omega), dropLowest_eq interval split low first]

/-- What a ring holds once a record has entered was in it before, or is that record. -/
theorem mem_of_mem_enterRing {α : Type} {interval : α → Nat} {ring : List α} {x z : α}
    (h : z ∈ enterRing interval ring x) : z ∈ ring ∨ z = x := by
  rw [enterRing, List.mem_append, List.mem_singleton] at h
  refine h.imp_left fun h => ?_
  split at h
  · exact h
  · exact List.mem_of_mem_eraseP h

/-- A ring never holds more than three records. -/
theorem enterRing_length_le {α : Type} (interval : α → Nat) (ring : List α) (x : α) (h : ring.length ≤ ringSize) :
    (enterRing interval ring x).length ≤ ringSize := by
  unfold enterRing
  split
  · simp only [List.length_append, List.length_singleton]
    omega
  · have some_ : ring ≠ [] := by
      rintro rfl
      simp_all [ringSize]
    simp only [List.length_append, List.length_singleton, dropLowest_length interval some_, ringSize] at *
    omega

/-- The record that enters a ring is its last. -/
theorem enterRing_getLast? {α : Type} (interval : α → Nat) (ring : List α) (x : α) :
    (enterRing interval ring x).getLast? = some x := by
  simp [enterRing]

theorem Meter.release_ring_length_le (m : Meter) (k : Nat) : (m.release k).ring.length ≤ m.ring.length :=
  List.length_filter_le ..

theorem Supply.release_ring_length_le (u : Supply) (k : Nat) : (u.release k).ring.length ≤ u.ring.length :=
  List.length_filter_le ..

/-! ### The settlement queue -/

/-- The queue never holds more than 24 records. -/
theorem SettlementQueue.enter_length_le (q : SettlementQueue) (x : SettlementRecord)
    (h : q.records.length ≤ queueSize) : (q.enter x).records.length ≤ queueSize := by
  unfold SettlementQueue.enter
  split <;> simp_all [queueSize] <;> omega

/-- The record that enters the queue is its newest. -/
theorem SettlementQueue.enter_getLast? (q : SettlementQueue) (x : SettlementRecord) :
    (q.enter x).records.getLast? = some x := by
  unfold SettlementQueue.enter
  split <;> simp

/-! ### The household lines -/

/-- A duty is a ten-bit value. -/
theorem dutyOf_le (h : Option HeldResult) : dutyOf h ≤ 1023 := by
  unfold dutyOf
  split
  · split
    · rename_i r hr
      refine Nat.div_le_of_le_mul ?_
      nlinarith [Nat.sub_le r.supply r.demand]
    · omega
  · omega

/-! ### Posting -/

/-- A posting changes only the account, the queue and LIM. -/
theorem State.post_frame (x : SettlementRecord) (s : State) :
    s.post x = { s with
      account := { s.account with ledger := { s.account.ledger with figures := s.account.ledger.figures.posted x } }
      queue := s.queue.enter { x with balance := (s.account.ledger.figures.posted x).balance }
      outputs := { s.outputs with
        lim := s.supervisor.op != .holdUp && limOf s.limitFloor (s.account.ledger.figures.posted x).balance } } := rfl

/-- Results taken change only the outputs. -/
theorem State.takeResult_frame (x : HeldResult) (s : State) :
    ∃ o, s.takeResult x = s.setOutputs o ∧ o.held = some x ∧ o.lim = s.outputs.lim ∧ o.power = s.outputs.power := by
  unfold State.takeResult
  split
  · exact ⟨_, rfl, rfl, rfl, rfl⟩
  · exact ⟨_, rfl, rfl, rfl, rfl⟩

/-! ### The port -/

/-- An answer is the port answered, if it waited for this kind. -/
theorem State.answer_eq (s : State) (kind : RequestKind) (code : ResponseCode) (contents : List Byte) :
    s.answer kind code contents = s.setPort (Safety.waitAnswered s.port kind.byte (code.byte :: contents)) := by
  unfold State.answer State.portAwaits Safety.waitAnswered State.respond
  by_cases h : s.port.state = .executing ∧ s.port.begun = true ∧ s.port.held.map (·.kind) = some kind.byte
  · obtain ⟨h1, h2, h3⟩ := h
    simp [h1, h2, h3]
  · rw [if_neg h, if_neg (by simpa [and_assoc] using h)]
    rfl

/-- An answer changes only the port. -/
theorem State.answer_frame (s : State) (kind : RequestKind) (code : ResponseCode) (contents : List Byte) :
    ∃ p, s.answer kind code contents = s.setPort p := ⟨_, s.answer_eq kind code contents⟩

end Sys2Proof.Machine
end

