-- ==== Sys2Proof/Laws/Bounded.lean ====
section
/-! SUPPORT. The shared operations keep the bounds of Safety.Bounded; each block's part of the bounds is named once. -/

namespace Sys2Proof.Safety

open Sys2Proof.Machine

/-! ### The bounds block by block -/

/-- The outputs' ranges. -/
structure OutputsBounded (o : Outputs) : Prop where
  duty : o.duty ≤ 1023
  base : o.base ≤ 255
  extension : o.extension ≤ 3
  period : o.period ≤ 3
  position : o.step ≤ 255

/-- The link's part. -/
structure LinkBounded (k : Link) : Prop where
  receive : k.queue.length ≤ 8
  req : k.req = (k.tx == .waiting || k.tx == .sending)
  quiet : k.tx = .suspended → k.schedule = []

theorem Bounded.outputs {s : State} (h : Bounded s) : OutputsBounded s.outputs :=
  ⟨h.duty, h.base, h.extension, h.period, h.position⟩

theorem Bounded.link {s : State} (h : Bounded s) : LinkBounded s.link := ⟨h.receive, h.req, h.quiet⟩

/-- The bounds put together from the blocks'. -/
theorem Bounded.of {s : State} (m : s.meter.ring.length ≤ 3) (k : LinkBounded s.link)
    (p : s.peers.entries.length ≤ 48) (u : s.supply.ring.length ≤ 3) (q : s.queue.records.length ≤ 24)
    (o : OutputsBounded s.outputs) (n : s.store.pointer < 32) : Bounded s :=
  ⟨m, k.receive, p, u, q, o.duty, o.base, o.extension, o.period, o.position, n, k.req, k.quiet⟩

section
variable {s : State} (h : Bounded s)
include h

theorem Bounded.setPins (v : Pins) : Bounded (s.setPins v) := { h with }
theorem Bounded.setClock (v : Clock) : Bounded (s.setClock v) := { h with }
theorem Bounded.setReckoning (v : Reckoning) : Bounded (s.setReckoning v) := { h with }
theorem Bounded.setAccount (v : Account) : Bounded (s.setAccount v) := { h with }
theorem Bounded.setSupervisor (v : Supervisor) : Bounded (s.setSupervisor v) := { h with }
theorem Bounded.setPort (v : Port) : Bounded (s.setPort v) := { h with }
theorem Bounded.setFree (v : Nat) : Bounded (s.setFree v) := { h with }
theorem Bounded.setMeter (v : Meter) (hv : v.ring.length ≤ 3) : Bounded (s.setMeter v) := { h with ownRing := hv }
theorem Bounded.setPeers (v : Peers) (hv : v.entries.length ≤ 48) : Bounded (s.setPeers v) := { h with table := hv }
theorem Bounded.setSupply (v : Supply) (hv : v.ring.length ≤ 3) : Bounded (s.setSupply v) := { h with supplyRing := hv }
theorem Bounded.setQueue (v : SettlementQueue) (hv : v.records.length ≤ 24) : Bounded (s.setQueue v) :=
  { h with settlement := hv }
theorem Bounded.setStore (v : Store) (hv : v.pointer < 32) : Bounded (s.setStore v) := { h with pointer := hv }
theorem Bounded.setOutputs (v : Outputs) (hv : OutputsBounded v) : Bounded (s.setOutputs v) :=
  .of h.ownRing h.link h.table h.supplyRing h.settlement hv h.pointer
theorem Bounded.setLink (v : Link) (hv : LinkBounded v) : Bounded (s.setLink v) :=
  .of h.ownRing hv h.table h.supplyRing h.settlement h.outputs h.pointer

/-! ### Notifications, lines and answers -/

theorem Bounded.notify (n : Notice) (q : StoreNotice) : Bounded (s.notify n q) := { h with }
theorem Bounded.notifyEntry : Bounded s.notifyEntry := { h with }
theorem Bounded.notifyExit : Bounded s.notifyExit := { h with }
theorem Bounded.evaluateLim : Bounded s.evaluateLim := { h with }
theorem Bounded.respond (k : Byte) (c : ResponseCode) (xs : List Byte) : Bounded (s.respond k c xs) := { h with }

theorem Bounded.answer (k : RequestKind) (c : ResponseCode) (xs : List Byte) : Bounded (s.answer k c xs) := by
  unfold State.answer; split
  · exact h.respond ..
  · exact h

/-! ### Resets -/

omit h in
/-- A node reset leaves every bound. -/
theorem bounded_nodeReset (k : ResetKind) (s : State) : Bounded (s.nodeReset k) := by
  constructor <;> simp [State.nodeReset, Meter.initial, Link.initial, Peers.initial, Supply.initial,
    SettlementQueue.initial, Outputs.initial, Store.restarted, Store.initial]

omit h in
/-- Power-off leaves every bound. -/
theorem bounded_powerOff (s : State) : Bounded s.powerOff := by
  constructor <;> simp [State.powerOff, Meter.initial, Link.initial, Peers.initial, Supply.initial,
    SettlementQueue.initial, Outputs.initial, Store.initial]

theorem Bounded.settleReset : Bounded s.settleReset := by
  unfold State.settleReset
  repeat' split
  all_goals first | exact h | exact bounded_nodeReset ..

theorem Bounded.parityFault : Bounded s.parityFault := (h.setSupervisor _).settleReset

/-! ### Results and postings -/

theorem Bounded.post (x : SettlementRecord) : Bounded (s.post x) :=
  ((h.setAccount _).setQueue _ (SettlementQueue.enter_length_le _ _ h.settlement)).evaluateLim

theorem Bounded.takeResult (x : HeldResult) : Bounded (s.takeResult x) := by
  unfold State.takeResult
  split
  · exact h.setOutputs _ { h.outputs with }
  · exact h.setOutputs _ { h.outputs with duty := by dsimp only; exact dutyOf_le _ }

end

/-! ### Reckoning -/

/-- A guarded operation's state keeps the bounds, whether a check failed or not. -/
def GuardedBounded (g : Guarded) : Prop :=
  match g with
  | .done s => Bounded s
  | .failed s => Bounded s

theorem GuardedBounded.run {g : Guarded} (h : GuardedBounded g) : Bounded g.run := by
  cases g with
  | done s => exact h
  | failed s => exact Bounded.parityFault h

theorem GuardedBounded.andThen {g : Guarded} {f : State → Guarded} (h : GuardedBounded g)
    (hf : ∀ s, Bounded s → GuardedBounded (f s)) : GuardedBounded (g.andThen f) := by
  cases g with
  | done s => exact hf s h
  | failed s => exact h

theorem Bounded.guarded {s : State} (h : Bounded s) (ok : Bool) (f : State → State) (hf : Bounded (f s)) :
    Bounded (s.guarded ok f) := by
  unfold State.guarded; split
  · exact hf
  · exact h.parityFault

theorem Bounded.settle {s : State} (h : Bounded s) (j kind own answer list) :
    GuardedBounded (s.settle j kind own answer list) := by
  unfold State.settle
  dsimp only
  split
  · exact (h.takeResult _).post _
  · exact h.takeResult _

theorem Bounded.reckon {s : State} (h : Bounded s) (j kind own answer list) :
    GuardedBounded (s.reckon j kind own answer list) := by
  unfold State.reckon
  split
  · exact h
  · split
    · exact h.setReckoning _
    · cases own with
      | none => exact (h.setReckoning _).setReckoning _
      | some x => exact (h.setReckoning _).settle ..

theorem Bounded.makeReady (fuel : Nat) : ∀ {s : State}, Bounded s → GuardedBounded (s.makeReady fuel) := by
  induction fuel with
  | zero => intro s h; exact h
  | succ n ih =>
    intro s h
    unfold State.makeReady
    split
    · exact ((h.setReckoning _).reckon ..).andThen fun t ht => ih ht
    · exact h

theorem Bounded.takeInput {s : State} (h : Bounded s) (order j i) : GuardedBounded (s.takeInput order j i) := by
  unfold State.takeInput
  split
  · exact (h.setReckoning _).makeReady _
  · unfold State.unmatched
    split
    · exact h
    · split
      · exact h.setReckoning _
      · exact h.setReckoning _

theorem Bounded.takeInputs (order xs) : ∀ {s : State}, Bounded s → GuardedBounded (s.takeInputs order xs) := by
  induction xs with
  | nil => intro s h; exact h
  | cons x xs ih => intro s h; exact (h.takeInput ..).andThen fun t ht => ih ht

theorem Bounded.takeInstructed {s : State} (h : Bounded s) (order xs) : GuardedBounded (s.takeInstructed order xs) := by
  unfold State.takeInstructed
  split
  · split
    · exact h.setReckoning _
    · exact h
  · exact h.takeInputs ..

/-! ### The checkpoint store -/

section
variable {s : State} (h : Bounded s)
include h

theorem Bounded.buildAndProgram : Bounded s.buildAndProgram := by
  unfold State.buildAndProgram; split
  · exact h.setStore _ h.pointer
  · exact (h.setStore { s.store with op := none, pending := false, finalOwed := false } h.pointer).parityFault

theorem Bounded.beginCheckpoint : Bounded s.beginCheckpoint := by
  unfold State.beginCheckpoint; split
  · exact h.setStore _ h.pointer
  · exact h.buildAndProgram

theorem Bounded.request : Bounded s.request := by
  unfold State.request Store.pend
  repeat' split
  all_goals first
    | exact h
    | exact h.beginCheckpoint
    | exact h.setStore _ h.pointer

theorem Bounded.finalReport (o : FinalOutcome) : Bounded (s.finalReport o) := by
  have h1 := h.setStore { s.store with finalOwed := false } h.pointer
  unfold State.finalReport
  dsimp only
  split
  · exact (h1.setSupervisor _).answer ..
  · exact h1

theorem Bounded.finalRequest : Bounded s.finalRequest := by
  unfold State.finalRequest
  repeat' split
  · exact h.finalReport _
  · exact h.request.finalReport _
  · exact (h.setStore { s.store with finalOwed := true } h.pointer).request

theorem Bounded.enterFailed : Bounded s.enterFailed := by
  have h1 := h.setStore { s.store with op := none, failed := true, pending := false } h.pointer
  unfold State.enterFailed
  dsimp only
  split
  · exact (h1.finalReport _).settleReset
  · exact h1.settleReset

theorem Bounded.afterOperation : Bounded s.afterOperation := by
  have h1 := h.setStore { s.store with op := none } h.pointer
  unfold State.afterOperation
  dsimp only
  split
  · exact h1.beginCheckpoint
  · exact h1.settleReset

/-! ### The clock -/

theorem Bounded.spentInterval (n : Nat) : Bounded (s.spentInterval n) := by
  unfold State.spentInterval; split
  · exact h
  · exact h.setFree _

theorem Bounded.takeBoundary (r : Nat) : Bounded (s.takeBoundary r) := ((h.spentInterval _).setClock _).notify ..

theorem Bounded.jump (c r : Nat) : Bounded (s.jump c r) := ((h.spentInterval _).setClock _).notify ..

theorem Bounded.takeExpiry : Bounded s.takeExpiry := by
  unfold State.takeExpiry
  dsimp only
  split
  · exact (h.setClock _).takeBoundary _
  · exact (h.setClock _).setClock _

theorem Bounded.alignmentInput (i : AlignmentInput) : Bounded (s.alignmentInput i).2.2 := by
  unfold State.alignmentInput
  split
  · dsimp only
    split
    · unfold State.inStepInput
      split
      · split
        · unfold State.advance; split
          · exact h.setClock _
          · exact h.takeBoundary _
        · exact h
      · unfold State.firstInput State.align; split
        · exact (h.jump _ _).setClock _
        · exact h.setClock _
    · unfold State.farInput State.jumpOrClear
      dsimp only
      repeat' split
      all_goals first | exact h.jump _ _ | exact h.setClock _
    · exact h
    · exact h
  · exact h

end

end Sys2Proof.Safety
end

