-- ==== Sys2Proof/Laws/Reckon.lean ====
section
/-! SUPPORT. What an input to the reckoning unit can change: the unit, the account, the settlement queue and the outputs,
and nothing else; with both parity checks holding, it is always taken in whole. -/

namespace Sys2Proof.Machine

/-- `t` is `s` but for the reckoning unit's bookkeeping, the account, the queue and the outputs; the unit's inbox, epoch
and parity and the account's parity are as in `s`. -/
def SettlesOnly (s t : State) : Prop :=
  ∃ u o a q, t = { s with reckoning := u, outputs := o, account := a, queue := q } ∧ u.inbox = s.reckoning.inbox ∧
    u.epoch = s.reckoning.epoch ∧ u.lastParity = s.reckoning.lastParity ∧ a.parity = s.account.parity

theorem SettlesOnly.refl (s : State) : SettlesOnly s s :=
  ⟨s.reckoning, s.outputs, s.account, s.queue, rfl, rfl, rfl, rfl, rfl⟩

theorem SettlesOnly.trans {s t r : State} (h : SettlesOnly s t) (h' : SettlesOnly t r) : SettlesOnly s r := by
  obtain ⟨u, o, a, q, rfl, e1, e2, e3, e4⟩ := h
  obtain ⟨u', o', a', q', rfl, f1, f2, f3, f4⟩ := h'
  exact ⟨u', o', a', q', rfl, f1.trans e1, f2.trans e2, f3.trans e3, f4.trans e4⟩

theorem SettlesOnly.setReckoning (s : State) (u : Reckoning) (h1 : u.inbox = s.reckoning.inbox)
    (h2 : u.epoch = s.reckoning.epoch) (h3 : u.lastParity = s.reckoning.lastParity) :
    SettlesOnly s (s.setReckoning u) :=
  ⟨u, s.outputs, s.account, s.queue, rfl, h1, h2, h3, rfl⟩

theorem SettlesOnly.lastParity {s t : State} (h : SettlesOnly s t) :
    t.reckoning.lastParity = s.reckoning.lastParity := by
  obtain ⟨u, o, a, q, rfl, _, _, e, _⟩ := h; exact e

theorem SettlesOnly.accountParity {s t : State} (h : SettlesOnly s t) : t.account.parity = s.account.parity := by
  obtain ⟨u, o, a, q, rfl, _, _, _, e⟩ := h; exact e

/-- An operation done, changing only what a settlement changes. -/
def DoneSettling (s : State) (g : Guarded) : Prop := ∃ t, g = .done t ∧ SettlesOnly s t

theorem DoneSettling.andThen {s : State} {g : Guarded} {f : State → Guarded} (h : DoneSettling s g)
    (hf : ∀ t, SettlesOnly s t → DoneSettling t (f t)) : DoneSettling s (g.andThen f) := by
  obtain ⟨t, rfl, ht⟩ := h
  obtain ⟨r, hr, hr'⟩ := hf t ht
  exact ⟨r, hr, ht.trans hr'⟩

theorem settle_done {s : State} (ha : s.account.parity = true) (j kind own answer list) :
    DoneSettling s (s.settle j kind own answer list) := by
  unfold State.settle
  obtain ⟨o, ho, -, -, -⟩ := State.takeResult_frame (resultOf (s.settlement j kind own answer list) own list) s
  simp only [ho, State.setOutputs_account, ha, if_true]
  exact ⟨_, rfl, s.reckoning, _, _, _, rfl, rfl, rfl, rfl, ha.symm ▸ ha⟩

theorem reckon_done {s : State} (hp : s.reckoning.lastParity = true) (ha : s.account.parity = true)
    (j kind own answer list) : DoneSettling s (s.reckon j kind own answer list) := by
  unfold State.reckon
  simp only [hp, Bool.not_true, Bool.false_eq_true, if_false]
  split
  · exact ⟨_, rfl, .setReckoning s s.reckoning.repeated rfl rfl rfl⟩
  · have h1 : SettlesOnly s (s.setReckoning (s.reckoning.reached j)) := .setReckoning s _ rfl rfl hp.symm
    cases own with
    | none => exact ⟨_, rfl, h1.trans (.setReckoning _ _ rfl rfl rfl)⟩
    | some x =>
      obtain ⟨t, ht, ht'⟩ := settle_done (s := s.setReckoning (s.reckoning.reached j)) ha j kind x answer list
      exact ⟨t, ht, h1.trans ht'⟩

/-- A reckoning that is made leaves the pending reckonings as they are (R93). -/
theorem reckon_pending {s t : State} {j kind own answer list} (h : s.reckon j kind own answer list = .done t) :
    t.reckoning.pending = s.reckoning.pending := by
  unfold State.reckon at h
  split at h
  · cases h
  split at h
  · cases h; rfl
  cases own with
  | none => cases h; rfl
  | some x =>
    simp only [State.settle] at h
    split at h
    · cases h
      obtain ⟨o, ho, -, -, -⟩ := State.takeResult_frame
        (resultOf ((s.setReckoning (s.reckoning.reached j)).settlement j kind x answer list) x list)
        (s.setReckoning (s.reckoning.reached j))
      rw [ho, State.post_frame]
      rfl
    · cases h

theorem makeReady_done (fuel : Nat) : ∀ {s : State}, s.reckoning.lastParity = true → s.account.parity = true →
    DoneSettling s (s.makeReady fuel) := by
  induction fuel with
  | zero => intro s _ _; exact ⟨s, rfl, .refl s⟩
  | succ n ih =>
    intro s hp ha
    unfold State.makeReady
    split
    · rename_i j o kind own answer list rest _
      have h1 : SettlesOnly s (s.setReckoning { s.reckoning with pending := rest }) := .setReckoning s _ rfl rfl rfl
      obtain ⟨t, ht, ht'⟩ := (reckon_done (s := s.setReckoning { s.reckoning with pending := rest }) hp ha j kind own
        answer list).andThen fun r hr => ih (hr.lastParity.trans hp) (hr.accountParity.trans ha)
      exact ⟨t, ht, h1.trans ht'⟩
    · exact ⟨s, rfl, .refl s⟩

/-- A discarded input changes the repeat count at most (R91). -/
theorem Reckoning.discard_eq (u : Reckoning) (i : ReckoningInput) : ∃ n, u.discard i = { u with repeats := n } := by
  cases i <;> exact ⟨_, rfl⟩

/-- Discarded inputs change the repeat count at most. -/
theorem Reckoning.discards_eq (xs : List (Nat × ReckoningInput)) : ∀ u : Reckoning,
    ∃ n, xs.foldl (fun u x => u.discard x.2) u = { u with repeats := n } := by
  induction xs with
  | nil => exact fun u => ⟨_, rfl⟩
  | cons x xs ih =>
    intro u
    obtain ⟨n, hn⟩ := u.discard_eq x.2
    obtain ⟨m, hm⟩ := ih (u.discard x.2)
    exact ⟨m, by rw [List.foldl_cons, hm, hn]⟩

/-- With both parity checks holding, an input is taken in whole and changes nothing outside the settlement (R91, R93). -/
theorem takeInput_done {s : State} (hp : s.reckoning.lastParity = true) (ha : s.account.parity = true) (order j i) :
    DoneSettling s (s.takeInput order j i) := by
  unfold State.takeInput
  split
  · rename_i ps _
    have h1 : SettlesOnly s (s.setReckoning { s.reckoning with pending := ps }) := .setReckoning s _ rfl rfl rfl
    obtain ⟨t, ht, ht'⟩ := makeReady_done (s := s.setReckoning { s.reckoning with pending := ps }) ps.length hp ha
    exact ⟨t, ht, h1.trans ht'⟩
  · unfold State.unmatched
    simp only [hp, Bool.not_true, Bool.false_eq_true, if_false]
    split
    · obtain ⟨n, hn⟩ := s.reckoning.discard_eq i
      exact ⟨_, rfl, .setReckoning s _ (by rw [hn]) (by rw [hn]) (by rw [hn])⟩
    · exact ⟨_, rfl, .setReckoning s _ rfl rfl hp.symm⟩

/-- The same of several inputs in a row. -/
theorem takeInputs_done (order xs) : ∀ {s : State}, s.reckoning.lastParity = true → s.account.parity = true →
    DoneSettling s (s.takeInputs order xs) := by
  induction xs with
  | nil => intro s _ _; exact ⟨s, rfl, .refl s⟩
  | cons x xs ih =>
    intro s hp ha
    exact (takeInput_done hp ha order x.1 x.2).andThen fun r hr => ih (hr.lastParity.trans hp) (hr.accountParity.trans ha)

/-- The same of the instructions of a notification and what comes with them. -/
theorem takeInstructed_done (order xs) {s : State} (hp : s.reckoning.lastParity = true) (ha : s.account.parity = true) :
    DoneSettling s (s.takeInstructed order xs) := by
  unfold State.takeInstructed
  simp only [hp, Bool.or_true, if_true]
  split
  · obtain ⟨n, hn⟩ := Reckoning.discards_eq xs s.reckoning
    exact ⟨_, rfl, .setReckoning s _ (by rw [hn]) (by rw [hn]) (by rw [hn])⟩
  · exact takeInputs_done order xs hp ha

/-- A notification that instructs nothing changes nothing, whatever the parity of the last reckoned interval. -/
@[simp] theorem takeInstructed_nil (order : Nat) (s : State) : s.takeInstructed order [] = .done s := by
  unfold State.takeInstructed
  split <;> rfl

/-- Once the unit has taken every completed configuration write, instructions are inputs like any other. -/
theorem takeInstructed_current {s : State} (h : s.store.completions ≤ s.reckoning.epoch) (order xs) :
    s.takeInstructed order xs = s.takeInputs order xs := by
  have : ¬ s.reckoning.epoch < s.store.completions := by omega
  simp [State.takeInstructed, State.completionDue, this]

end Sys2Proof.Machine
end

