-- ==== Sys2Proof/Laws/Reset.lean ====
section
/-! SUPPORT. What a node reset leaves in the blocks, and the level an evaluation of LIM gives. -/

namespace Sys2Proof.Machine

open Sys2Proof.Safety

/-- A node reset leaves every block as its reset table says, with the lines as they were. -/
theorem nodeReset_leaves (kind : ResetKind) (s : State) : ResetLeaves s.pins (s.nodeReset kind) where
  start := ⟨rfl, rfl⟩
  channels := by simp [State.nodeReset, Meter.initial, MeterChannel.initial]
  meter := ⟨rfl, rfl, rfl⟩
  clock := ⟨rfl, rfl, rfl, rfl, rfl, rfl⟩
  lengthCode := by
    refine ⟨fun h => ?_, fun w h => ?_⟩ <;>
      simp_all [State.nodeReset, Store.lengthCode]
  receive := ⟨rfl, rfl, rfl⟩
  transmit := ⟨rfl, rfl, rfl, rfl, rfl, rfl⟩
  table := ⟨rfl, rfl⟩
  reckoning := ⟨rfl, rfl, rfl⟩
  converter := ⟨rfl, rfl, rfl, rfl, rfl, rfl, rfl, rfl, rfl⟩
  supplyRecords := ⟨rfl, rfl, rfl, rfl, rfl, rfl⟩
  queue := rfl
  outputs := ⟨rfl, rfl, rfl, rfl, rfl, rfl, rfl, rfl⟩
  store := ⟨rfl, rfl, rfl, rfl, rfl⟩
  port := ⟨rfl, rfl, rfl, rfl, rfl, rfl⟩
  lines := rfl

/-- The level an evaluation of LIM gives is that of the balance (R153, R154). -/
theorem limLevel_evaluated (s : State) (balance : Int) :
    LimLevel s balance (s.supervisor.op != .holdUp && limOf s.limitFloor balance) where
  evaluated w working op := by simp [State.limitFloor, State.config, working, limOf, op]
  inactive h := by
    rcases h with h | h
    · simp [State.limitFloor, State.config, h, limOf]
    · simp [h]

end Sys2Proof.Machine
end

