-- ==== Sys2Proof/Laws/Village.lean ====
section
/-! SUPPORT. A parity check over a table whose entries are sound changes nothing (R64), and when a queued frame carries no
mark (R77). -/

namespace Sys2Proof.Machine

/-- With every entry sound, a read of the entries frees none and counts none. -/
theorem Peers.purge_sound {p : Peers} (h : ∀ e ∈ p.entries, e.parity = true) (reads : Entry → Bool) :
    p.purge reads = p := by
  have kept : p.entries.filter (fun e => e.parity || !reads e) = p.entries := by
    rw [List.filter_eq_self]
    intro e he
    simp [h e he]
  have none' : p.entries.countP (fun e => !e.parity && reads e) = 0 := by
    rw [List.countP_eq_zero]
    intro e he
    simp [h e he]
  simp only [Peers.purge, kept, none', TableCounters.discards, if_true]

/-- A queued frame counts as unmarked exactly when it has no mark, its stamp stands in the numbering of the clock's last
jump and of the last completed configuration write, and the clock has taken that write. -/
theorem marked_eq_false {s : State} {x : QueueEntry} : s.marked x = false ↔
    x.preJump = false ∧ s.clock.jumps ≤ x.stamp.jumps ∧ s.store.completions ≤ x.stamp.completions ∧
      s.store.completions ≤ s.clock.epoch := by
  simp [State.marked, State.completionDue, and_assoc]

/-- A frame that counts as marked gives the clock no input: the verdict is NONE and nothing changes (R22, R69). -/
theorem alignmentInput_marked (s : State) (f : Frame) (x : QueueEntry) :
    s.alignmentInput (inputOf f x true) = (.none, 0, s) := by
  simp [State.alignmentInput, AlignmentInput.usable, inputOf]

end Sys2Proof.Machine
end

