-- ==== Sys2Proof/WellFormed.lean ====
section
/-! DEFINITION. Which commands are well formed: the operands the layouts and the converter admit. An ill-formed command
still has a meaning (a COMMISSION whose body has another length is MALFORMED, R196; a sum no conversion can give finds no
occasion, R118). -/

namespace Sys2Proof

/-- Bytes of a COMMISSION body (R215). -/
abbrev commissionLength : Nat := 96

/-- The largest sum of samples any conversion can give: A = 128 samples of at most 4,095 (R118). -/
abbrev maxSampleSum : Nat := 128 * 4095

/-- The check of one command's operands. -/
def Instr.wellFormed : Instr → Bool
  | .commission body => body.length == commissionLength
  | .conversionComplete sum => sum ≤ maxSampleSum
  | _ => true

end Sys2Proof
end

