-- ==== Sys2Proof/Tests/Slice0.lean ====
section
/-! SUPPORT. Small tests; each expected value comes from the spec, as its comment says. Then one witness for each statement
with hypotheses: a concrete state and operands that meet them together. -/

set_option maxRecDepth 8000

open Sys2Proof.Machine Sys2Proof.Safety

namespace Sys2Proof.Tests

/-! ### Well-formedness -/

/-- A COMMISSION body of 95 bytes is ill formed (R196, R215). -/
theorem test_commission_short_body_refused :
    (Instr.commission (List.replicate 95 0#8)).wellFormed = false := by decide

/-- A sum above 128 samples of 4,095 is ill formed (R118). -/
theorem test_conversion_sum_too_large_refused :
    (Instr.conversionComplete 524161).wellFormed = false := by decide

/-! ### States to test on -/

/-- Node 40 of the worked reckoning, with the example tariff (5.12, 6.5, 7.7). -/
def cfg : Configuration :=
  { cooperative := 7, nodeId := 40, lengthCode := 2, startInterval := 100, startRemaining := 450, importWeight := 1
    exportWeight := 10, spacing := 100, copies := 3, guardSeconds := 60, quorum := 75, levy := 25
    bandMap := List.replicate 6 1 ++ List.replicate 4 2 ++ List.replicate 6 3 ++ List.replicate 5 2
      ++ List.replicate 3 0
    prices := [150, 40, 210, 280, 390] ++ [180, 60, 240, 310, 420] ++ [220, 70, 290, 360, 480]
      ++ [130, 30, 200, 270, 380]
    accumulationCode := 4, sensePeriod := 10, windowLow := 29000, windowHigh := 35000, strain := 3
    limitFloor := -20000 }

/-- The working configuration of the tests. -/
def work : Working := { record := cfg, check := 0x1234#16 }

/-- A commissioned node in RUN, ALIGNED in interval 5,001. -/
def run : State :=
  { State.reset with
    clock := { Clock.initial with c := 5001, alignment := .aligned }
    reckoning := { Reckoning.initial with inForce := some cfg }
    store := { Store.initial with commissioning := .commissioned, working := some work }
    supervisor := { Supervisor.initial with op := .run } }

/-- A node in power-off. -/
def off : State := { State.reset with supervisor := { Supervisor.initial with powered := false } }

/-- The state after a command. -/
def after (i : Instr) (s : State) : State :=
  match exec i s with
  | .next t => t
  | .fault _ => s
  | .refused _ => s

/-- `run` with the link as given. -/
def linked (k : Link) : State := run.setLink k

/-- `run` with this notification before every block that takes clock notifications. -/
def notified (n : Notice) : State := run.notify n .boundary

/-- `run` with an operation of the store in flight. -/
def storing (op : Operation) : State := run.setStore { run.store with op := some op }

/-- A fresh configuration write's completion still to be taken by every block. -/
def completed : State := run.setStore { run.store with completions := 1 }

/-! ### Worked examples of the spec -/

/-- The check over the nine characters 1 to 9 is 0x29B1 (R211). -/
theorem test_check_value :
    crc16 [0x31#8, 0x32#8, 0x33#8, 0x34#8, 0x35#8, 0x36#8, 0x37#8, 0x38#8, 0x39#8] = 0x29B1#16 := by decide

/-- Interval 5,000 falls at hour 2 and 7,198 at hour 23, both of L = 900 s (5.12, 5.13). -/
theorem test_hour_of_day : hourOfDay 2 5000 = 2 ∧ hourOfDay 2 7198 = 23 := by decide

/-- The own record of 5,000: 1,200 Wh exported across the counter's wrap, 312 Wh imported (1.6). -/
theorem test_own_record_of_5000 :
    let m : Meter := { Meter.initial with
      restart := false, snapshot := ⟨4294966100#32, 73210#32⟩
      exp := { MeterChannel.initial with counter := 4#32 }, imp := { MeterChannel.initial with counter := 73522#32 } }
    m.ownRecord 5000 = ⟨5000, 1200, 312, false, 4#32, 73522#32, false⟩ := by decide

/-- The due offsets of node 23 in 5,001: 107, 370 and 633 s (3.7). -/
theorem test_due_offsets :
    (List.range 3).map (dueOffset 900 3 23 5001) = [107, 370, 633] := by decide

/-- The candidate (7,201, 60) carried forward by 95 s is (7,202, 865) (2.8). -/
theorem test_jump_target : carryForward 900 7201 60 95 = (7202, 865) := by decide

/-- An advance of 4 s at r = 2 takes the boundary at once, with r at 898 (R23). -/
theorem test_advance_through_a_boundary :
    let t := (run.setClock { run.clock with r := 2 }).advance (advanceSeconds 9)
    t.clock.r = 898 ∧ t.clock.c = 5002 ∧ t.link.inbox = [.boundary 5001 5002 .aligned 0] := by decide

/-- The own record of the worked reckoning (5.12). -/
def own5000 : OwnRecord := ⟨5000, 1840, 310, false, 0#32, 0#32, false⟩

/-- Its participant list: peers 12, 17, 23 and 31, five expected. -/
def list5000 : ParticipantList :=
  { counted := [⟨12, .direct, 0, 1200, false, some .grid, false⟩, ⟨17, .direct, 950, 120, false, some .grid, false⟩,
      ⟨23, .direct, 40, 1015, false, some .grid, false⟩, ⟨31, .recovered, 600, 600, false, none, false⟩]
    expected := 5 }

/-- The settlement of 5,000: POOLED, SELLER, m 1,410, u 120, amount 254,655, levy 6,345 (5.12). -/
theorem test_settlement_of_5000 :
    let x := run.settlement 5000 .regular own5000 (some ⟨5000, .grid, .own⟩) list5000
    x.mode = .pooled ∧ x.band = 1 ∧ x.village = some ⟨5, 6, 2360, 2175⟩ ∧
      x.price = some ⟨1410, 120, 180, 60, 254655, .credit, 6345⟩ ∧ x.formByte = 0xC8#8 ∧
      dutyOf (some (resultOf x own5000 list5000)) = 80 := by decide

/-- The CUT-SHORT reckoning of 7,199: UNPOOLED, STRAINED from a peer, 106,400 charged (5.13). -/
theorem test_settlement_of_7199 :
    let x := run.settlement 7199 .cutShort ⟨7199, 0, 380, false, 0#32, 0#32, false⟩ (some ⟨7199, .grid, .held⟩)
      { counted := [⟨1, .direct, 90, 0, false, some .strained, false⟩, ⟨2, .direct, 0, 250, false, some .grid, false⟩]
        expected := 4 }
    x.mode = .unpooled ∧ x.supplyState = .strained ∧ x.source = .peer ∧
      x.price = some ⟨0, 380, 150, 280, 106400, .charge, 0⟩ := by decide

/-- A = 64 and a sum of 131,520 give the result 32,880, in band; 36,400 is above the band (6.2, 6.7). -/
theorem test_reference_results :
    conversionResult 64 131520 = 32880 ∧ inBand 64 32880 = true ∧ inBand 64 36400 = false := by decide

/-- The byte lengths of the layouts: account 166, status block at most 219 (R213). -/
theorem test_layout_lengths :
    Account.initial.ledger.bytes.length = 166 ∧ run.statusBlock.length ≤ 219 := by decide

/-- The posting of 5,000 to a balance of 3,118,240 leaves 3,372,895, and LIM inactive (7.7). -/
theorem test_posting_of_5000 :
    let s := run.setAccount { run.account with ledger := { run.account.ledger with
      figures := { PeriodFigures.zero with balance := 3118240, credits := 5902115, charges := 2783875, levy := 140220 } } }
    let t := s.post (run.settlement 5000 .regular own5000 (some ⟨5000, .grid, .own⟩) list5000)
    t.account.ledger.figures.balance = 3372895 ∧ t.account.ledger.figures.credits = 6156770 ∧
      t.account.ledger.figures.levy = 146565 ∧ t.outputs.lim = false ∧
      t.queue.records.map (·.balance) = [3372895] := by decide

/-- A COMMISSION while LOCKED answers LOCKED, before any other check (R202). -/
theorem test_commission_while_locked :
    (after (.commission (List.replicate 96 0#8))
      (run.setStore { run.store with commissioning := .locked })).port.response =
      some (envelope 6#8 [2#8]) := by decide

/-- RESTART-BLOCK with a selector of neither block is BAD-VALUE with index 1 (R205). -/
theorem test_restart_block_bad_selector :
    (after (.restartBlock 3#8) run).port.response = some (envelope 9#8 [4#8, 1#8]) := by decide

/-! ### Witnesses: the hypotheses of a statement, met together

A statement with no hypothesis on the state, or only that the node is powered, is met by `run`. Where a statement has
several clauses, each has its own state, at a boundary of its range where there is one. -/

theorem witness_EmptyQueueStepIsOneMillisecond :
    run.pending = [] ∧ run.supervisor.powered = true ∧ run.supply.settling = .running 2000 ∧
      ∀ n, (run.setSupply { run.supply with settling := .expired }).supply.settling ≠ .running n := by
  refine ⟨rfl, rfl, rfl, ?_⟩
  intro n h
  cases h

theorem witness_EveryStepKeepsTheBounds : Bounded run ∧ ∃ t, step run = .next t :=
  ⟨by constructor <;> decide, _, rfl⟩

/-- Figures with every item at the upper end of its range. -/
def fullFigures : PeriodFigures :=
  { balance := -140737488355327, saturated := true, credits := 2 ^ 63 - 1, charges := 2 ^ 63 - 1, levy := 2 ^ 63 - 1
    soldPeers := 2 ^ 48 - 1, soldSurplus := 2 ^ 48 - 1, boughtPeers := 2 ^ 48 - 1, boughtBackup := 2 ^ 48 - 1
    pooled := 2 ^ 32 - 1, unpooled := 2 ^ 32 - 1, lone := 2 ^ 32 - 1, cutShort := 2 ^ 32 - 1 }

theorem witness_figures_in_range : FiguresInRange fullFigures := by constructor <;> decide

theorem witness_CheckpointReadsBack :
    CheckpointInRange { seq := 2 ^ 32 - 1, tag := 0xFFFF#16, cumExport := 0xFFFFFFFF#32, cumImport := 0#32
                        c := 2 ^ 32 - 1, last := some (2 ^ 32 - 1)
                        ledger := { figures := fullFigures, period := 7, opening := 5001
                                    summary := some ⟨6, 4320, some 5000, fullFigures, 65535⟩ } } where
  numbers := by decide
  last := by intro k h; cases h; decide
  figures := witness_figures_in_range
  summary := by
    intro y h
    cases h
    exact ⟨by decide, by intro k h; cases h; decide, witness_figures_in_range⟩

theorem witness_FrameReadsBack :
    cfg.cooperative < 2 ^ 16 ∧ cfg.nodeId < 2 ^ 8 ∧ cfg.lengthCode < 2 ^ 8 ∧ 2 ^ 32 - 1 < 2 ^ 32 ∧ 900 < 2 ^ 16 ∧
      own5000.exportWh < 2 ^ 16 ∧ own5000.importWh < 2 ^ 16 := by decide

theorem witness_PowerOffStopsTheBlocks : off.supervisor.powered = false := by decide

/-- `run` with both channels in HOLD-OFF until a time. -/
def heldOff (expiry : Word32) : State :=
  run.setMeter { run.meter with
    imp := { MeterChannel.initial with state := .holdOff, expiry := expiry }
    exp := { MeterChannel.initial with state := .holdOff, expiry := expiry } }

theorem witness_HoldOffRejectsAndExpires :
    (heldOff 0#32).supervisor.powered = true ∧ (heldOff 0#32).meter.imp.state = .holdOff ∧
      (heldOff 0#32).meter.exp.state = .holdOff ∧ (heldOff 0#32).meter.timebase = (heldOff 0#32).meter.imp.expiry ∧
      (heldOff 0#32).meter.timebase = (heldOff 0#32).meter.exp.expiry ∧
      (heldOff 1#32).meter.timebase + 1 = (heldOff 1#32).meter.imp.expiry := by decide

theorem witness_AcceptedPulseIsCounted :
    (run.supervisor.powered = true ∧ run.supervisor.op ≠ .start ∧ run.meter.imp.state = .openChannel ∧
      run.meter.imp.counterParity = true ∧ run.meter.exp.state = .openChannel ∧ run.meter.exp.counterParity = true) ∧
    (State.reset.supervisor.powered = true ∧ State.reset.supervisor.op = .start ∧
      State.reset.meter.imp.state = .openChannel ∧ State.reset.meter.imp.accumulatorParity = true ∧
      State.reset.meter.exp.state = .openChannel ∧ State.reset.meter.exp.accumulatorParity = true) := by decide

/-- `run` with the import counter's parity failed. -/
def upsetRun : State := run.setMeter { run.meter with imp := { run.meter.imp with counterParity := false } }

theorem witness_PulseOnFailedParityMakesAReset :
    upsetRun.supervisor.powered = true ∧ upsetRun.supervisor.op ≠ .start ∧ upsetRun.meter.imp.state = .openChannel ∧
      upsetRun.meter.imp.counterParity = false ∧ upsetRun.store.op = none ∧
      (upsetRun.setStore { upsetRun.store with op := some (.programLock 0#16) }).store.op ≠ none := by decide

theorem witness_BoundarySnapshotMakesTheRecord :
    (notified (.boundary 5001 5002 .aligned 0)).supervisor.powered = true ∧
      (notified (.boundary 5001 5002 .aligned 0)).meter.inbox = [.boundary 5001 5002 .aligned 0] ∧
      (notified (.boundary 5001 5002 .aligned 0)).meter.epoch = 0 ∧
      (notified (.boundary 5001 5002 .aligned 0)).store.completions ≤ 0 ∧
      (notified (.boundary 5001 5002 .aligned 0)).meter.boundaryOk = true ∧
      (notified (.boundary 5001 5002 .aligned 0)).link.awaiting ≠ some 5001 ∧
      let awaits (s : State) := s.setLink { s.link with awaiting := some 5001 }
      let s := awaits (notified (.boundary 5001 5002 .aligned 0))
      s.link.awaiting = some 5001 ∧ s.supervisor.op = .run ∧ s.link.tx ≠ .suspended ∧ s.store.working = some work ∧
        (∀ y ∈ s.meter.ring, y.interval ≠ 5001) ∧
        (s.setSupervisor { s.supervisor with op := .holdUp }).supervisor.op ≠ .run ∧
        (s.setLink { s.link with tx := .suspended }).link.tx = .suspended ∧
        (s.setStore { s.store with working := none }).store.working = none := by decide

theorem witness_CommissioningCutAndFold :
    completed.supervisor.powered = true ∧ completed.meter.countersOk = true ∧
      completed.meter.epoch < completed.store.completions ∧
      (run.setMeter { run.meter with foldDue := true }).meter.countersOk = true ∧
      (run.setMeter { run.meter with foldDue := true }).meter.foldDue = true := by decide

theorem witness_JumpHandovers :
    let s (a : Machine.Alignment) := notified (.jump 2 4 a 0)
    (s .aligned).supervisor.powered = true ∧ (s .aligned).reckoning.lastParity = true ∧
      (s .aligned).account.parity = true ∧ (s .aligned).reckoning.pending = [] ∧
      (s .aligned).reckoning.last = none ∧ (∀ l ∈ some 4999, l + 2 < 5002) ∧
      (∀ a ∈ [Machine.Alignment.aligned, .unaligned], (s a).store.completions ≤ (s a).meter.epoch ∧
        (s a).store.completions ≤ (s a).supply.epoch ∧ (s a).store.completions ≤ (s a).peers.epoch ∧
        (s a).store.completions ≤ (s a).reckoning.epoch) ∧
      (s .aligned).meter.inbox = [.jump 2 4 .aligned (s .aligned).meter.epoch] ∧
      (s .unaligned).meter.inbox = [.jump 2 4 .unaligned (s .unaligned).meter.epoch] ∧
      (s .aligned).supply.inbox = [.jump 2 4 .aligned (s .aligned).supply.epoch] ∧
      (s .unaligned).supply.inbox = [.jump 2 4 .unaligned (s .unaligned).supply.epoch] ∧
      (s .aligned).peers.inbox = [.jump 2 4 .aligned (s .aligned).peers.epoch] ∧
      (s .unaligned).peers.inbox = [.jump 2 4 .unaligned (s .unaligned).peers.epoch] ∧
      (∀ e ∈ (s .aligned).peers.entries, e.parity = true) ∧
      (s .aligned).reckoning.inbox = [.jump 2 4 .aligned (s .aligned).reckoning.epoch] ∧
      (s .unaligned).reckoning.inbox = [.jump 2 4 .unaligned (s .unaligned).reckoning.epoch] := by decide

theorem witness_TickCountsDown :
    let s (r : Nat) := run.setClock { run.clock with r := r }
    let due := run.setClock { run.clock with r := 1, expiryDue := true }
    ((s 2).supervisor.powered = true ∧ (s 2).clock.expiryDue = false ∧ 2 ≤ (s 2).clock.r ∧ (s 1).clock.r = 1 ∧
      due.clock.expiryDue = true) ∧ ∃ t, exec .boundary due = .next t := ⟨by decide, _, rfl⟩

theorem witness_BoundaryAdvancesAndNotifies :
    let s := run.setClock { run.clock with r := 1, expiryDue := true, c := 4294967294 }
    s.supervisor.powered = true ∧ s.clock.expiryDue = true ∧ s.clock.r = 1 ∧ s.clock.c < 4294967295 := by decide

theorem witness_ListenWindowStartsAndExpires :
    let s := run.setClock { run.clock with listenDue := true, alignment := .unaligned }
    let u := State.reset.setClock { Clock.initial with listenDue := true }
    let v := run.setClock { run.clock with window := some 0 }
    (s.supervisor.powered = true ∧ s.clock.listenDue = true ∧ s.store.working ≠ none ∧
      s.clock.alignment = .unaligned) ∧
    (u.supervisor.powered = true ∧ u.clock.listenDue = true ∧ u.store.working = none) ∧
    (v.supervisor.powered = true ∧ v.clock.window = some 0) := by decide

theorem witness_SetNumberingTakesTheStart :
    let s := completed.setClock { completed.clock with c := work.record.startInterval }
    s.supervisor.powered = true ∧ s.store.working = some work ∧ s.clock.epoch < s.store.completions ∧
      s.supervisor.op ≠ .start ∧ s.clock.c ≤ work.record.startInterval ∧
      work.record.startInterval < completed.clock.c := by decide

/-- An alignment input at r = 900 with this remaining value and stamp. -/
def inputAt (ci ri : Nat) : AlignmentInput := ⟨9, ci, ri, 5001, 900, false⟩

theorem witness_VerdictAndAdvance :
    run.clock.alignment = .aligned ∧ (inputAt 5001 840).preJump = false ∧ 1 ≤ (inputAt 5001 840).ri ∧
      (inputAt 5001 840).ri ≤ intervalLength run.clock.lengthCode ∧ run.guardSeconds = 60 ∧
      (inputAt 5001 840).lead 900 = 60 ∧ advanceSeconds 60 = 4 ∧ 4 < run.clock.r ∧
      (run.setClock { run.clock with r := 4 }).clock.r ≤ 4 ∧
      ((inputAt 5001 900).lead 900 = 0) ∧ ((inputAt 5000 60).lead 900 = -60) ∧
      ((inputAt 5000 61).lead 900 = -61) := by decide

theorem witness_JumpTargetAndJump :
    let i : AlignmentInput := ⟨9, 5002, 900, 5001, 900, false⟩
    let j : AlignmentInput := ⟨9, 5001, 899, 5001, 900, false⟩
    let set (ids : List Nat) := run.setClock { run.clock with farAhead := ids }
    let lost := run.setClock { run.clock with alignment := .unaligned }
    (0 < 900 ∧ 1 ≤ 900 ∧ 900 ≤ 900 ∧ 4294967295 ≤ 4294967295) ∧
    (run.clock.alignment = .aligned ∧ i.preJump = false ∧ 1 ≤ i.ri ∧ i.ri ≤ intervalLength run.clock.lengthCode ∧
      i.lead 900 = 900 ∧ run.guardSeconds = 60 ∧ run.clock.candidate = none ∧
      carryForward 900 i.ci i.ri 0 = (5002, 900) ∧ carryForward 900 5000 1 0 = (5000, 1) ∧
      i.sender ∈ (set [9]).clock.farAhead ∧ i.sender ∉ (set [7]).clock.farAhead ∧ (set [7]).clock.farAhead.length < 2 ∧
      i.sender ∉ (set [7, 8]).clock.farAhead ∧ (set [7, 8]).clock.farAhead.length = 2 ∧
      (set [7, 8]).clock.c < 5002 ∧ ¬ (set [7, 8]).clock.c < 5000) ∧
    (lost.clock.alignment = .unaligned ∧ j.lead 900 = 1 ∧ j.ci = lost.clock.c ∧ j.ri < lost.clock.r ∧
      (inputAt 5000 60).lead 900 = -60 ∧ (inputAt 5000 61).lead 900 = -61) := by decide

theorem witness_ReceivedBytesAreAssembled :
    let r (bs : List Byte) : Link := { Link.initial with rx := .receiving, assembly := bs, stall := some 0 }
    (run.supervisor.powered = true ∧ run.link.tx ≠ .suspended ∧ run.link.rx = .hunt ∧
      (linked { Link.initial with rx := .fault }).link.rx = .fault) ∧
    (linked { Link.initial with tx := .suspended }).link.tx = .suspended ∧
    ((∀ x ∈ [TxState.idle, .waiting, .sending], x ≠ .echo ∧ x ≠ .suspended ∧
        (linked { r [0xC3#8] with tx := x }).link.tx = x) ∧ (linked (r [0xC3#8])).link.rx = .receiving ∧
      (linked (r [0xC3#8])).link.assembly = [0xC3#8] ∧ (23#8 : Byte) ≠ 24#8 ∧ (linked (r [0xC3#8])).link.stall = some 0 ∧
      2 ≤ (linked (r (List.replicate 2 0#8))).link.assembly.length ∧
      (linked (r (List.replicate 26 0#8))).link.assembly.length < 27) := by decide

/-- The content of a frame of peer 12 in 5,001, and the link one byte before the frame's end. -/
def content12 : List Byte := frameContent { cfg with nodeId := 12 } 5001 890 own5000 .grid false ⟨3, 0⟩

/-- The two check bytes of this content. -/
def check12 : List Byte := checkBytes content12

/-- The link one byte before the end of this frame. -/
def nearEnd : Link :=
  { Link.initial with rx := .receiving, assembly := 0xC3#8 :: 24#8 :: (content12 ++ check12.take 1) }

theorem witness_GoodFrameIsStampedAndQueued :
    (linked nearEnd).supervisor.powered = true ∧
      (∀ x ∈ [TxState.idle, .waiting, .sending], x ≠ .echo ∧ x ≠ .suspended ∧
        (linked { nearEnd with tx := x }).link.tx = x) ∧
      nearEnd.rx = .receiving ∧
      ({ nearEnd with echoReference := some (frameBytes content12) } : Link).echoReference =
        some (frameBytes content12) ∧
      content12.length = 24 ∧ nearEnd.assembly = 0xC3#8 :: 24#8 :: (content12 ++ [check12.getD 0 0#8]) ∧
      [check12.getD 0 0#8, check12.getD 1 0#8] = checkBytes content12 ∧
      [check12.getD 0 0#8, check12.getD 1 0#8 + 1#8] ≠ checkBytes content12 ∧
      nearEnd.echoReference ≠ some (frameBytes content12) ∧ nearEnd.queue.length < 8 ∧
      8 ≤ ({ nearEnd with queue := List.replicate 8 ⟨content12, ⟨0, 0, 0, 0⟩, false⟩ } : Link).queue.length ∧
      (linked nearEnd).store.completions ≤ (linked nearEnd).clock.epoch ∧
      completed.clock.epoch < completed.store.completions ∧ completed.store.working = some work ∧
      work.record.startInterval < completed.clock.c := by decide

theorem witness_OwnEchoDecidesTheCopySent :
    let k : Link := { nearEnd with tx := .echo, echoReference := some (frameBytes content12), stall := some 0 }
    (linked k).supervisor.powered = true ∧ k.tx = .echo ∧ k.rx = .receiving ∧ content12.length = 24 ∧
      k.assembly = 0xC3#8 :: 24#8 :: (content12 ++ [check12.getD 0 0#8]) ∧
      [check12.getD 0 0#8, check12.getD 1 0#8] = checkBytes content12 ∧
      [check12.getD 0 0#8, check12.getD 1 0#8 + 1#8] ≠ checkBytes content12 ∧
      k.echoReference = some (frameBytes content12) ∧
      ({ k with echoReference := none } : Link).echoReference ≠ some (frameBytes content12) ∧ k.queue.length < 8 ∧
      (linked k).store.completions ≤ (linked k).clock.epoch ∧ k.stall = some 0 := by decide

theorem witness_BreakAndTheLineEdges :
    let k (x : TxState) : Link := { Link.initial with breakTimer := some 0, tx := x }
    run.supervisor.powered = true ∧ run.pins.rxd = true ∧ run.link.rx ≠ .fault ∧ run.link.tx ≠ .suspended ∧
      (linked (k .idle)).link.breakTimer = some 0 ∧ (linked (k .idle)).link.tx = .idle ∧
      (linked (k .waiting)).link.tx = .waiting ∧ (linked (k .sending)).link.tx = .sending ∧
      (linked (k .echo)).link.tx = .echo ∧ (linked { Link.initial with rx := .fault }).link.rx = .fault := by decide

theorem witness_DueOffsetLiesInItsSubSpan : 2 ≤ 2 ∧ 4 ≤ 4 ∧ 3 < 4 := by decide

theorem witness_ScheduleIsBuiltAtAlignedBoundaries :
    let s := (linked { Link.initial with inbox := [.boundary 5000 5001 .aligned 0] }).setMeter
      { run.meter with ring := [own5000] }
    let v := s.setMeter { s.meter with snapshotParity := false }
    let u (x : TxState) := linked { Link.initial with tx := x, inbox := [.boundary 5000 5001 .unaligned 0] }
    (s.supervisor.powered = true ∧ s.link.tx = .idle ∧ s.link.inbox = [.boundary 5000 5001 .aligned s.link.epoch] ∧
      s.store.completions ≤ s.link.epoch ∧ (u .idle).store.completions ≤ (u .idle).link.epoch ∧
      s.meter.inbox = [] ∧ s.supervisor.op = .run ∧ s.meter.ring.find? (fun y => y.interval == 5000) = some own5000 ∧
      s.store.working = some work ∧ s.meter.snapshotParity = true ∧ v.meter.snapshotParity = false ∧
      v.store.op = none) ∧
    (let early := s.setMeter { s.meter with inbox := [.boundary 5000 5001 .aligned 0] }
     early.link.tx ≠ .waiting ∧ .boundary 5000 5001 .aligned 0 ∈ early.meter.inbox ∧ s.link.tx ≠ .waiting ∧
      (∀ x ∈ s.meter.inbox, x ≠ .boundary 5000 5001 .aligned 0) ∧
      (s.setSupervisor { s.supervisor with op := .holdUp }).supervisor.op ≠ .run ∧
      (s.setLink { s.link with tx := .suspended }).link.tx = .suspended ∧
      ∀ y ∈ (s.setMeter { s.meter with ring := [] }).meter.ring, y.interval ≠ 5000) ∧
    (u .idle).link.tx = .idle ∧ (u .waiting).link.tx = .waiting ∧
      (u .waiting).link.inbox = [.boundary 5000 5001 .unaligned (u .waiting).link.epoch] := by decide

theorem witness_CopyDueWaitsOrIsMissed :
    let k : Link := { Link.initial with schedule := [⟨0, 107⟩, ⟨1, 370⟩], elapsed := 107, scheduleCount := 3 }
    (linked k).supervisor.powered = true ∧ k.schedule = ⟨0, 107⟩ :: [⟨1, 370⟩] ∧ (107 : Nat) = k.elapsed ∧
      k.tx = .idle ∧ k.rx ≠ .fault ∧ (linked k).pins.clr = false ∧ ({ k with rx := .fault } : Link).rx = .fault ∧
      (let s := ((linked k).setPins { run.pins with clr := true }).setMeter { run.meter with ring := [own5000] }
       s.pins.clr = true ∧ 1 ≤ s.clock.c ∧ s.store.working = some work ∧
        s.meter.ring.find? (fun y => y.interval == s.clock.c - 1) = some own5000 ∧ s.meter.snapshotParity = true ∧
        s.supply.ring.find? (fun y => y.interval == s.clock.c - 1) = none ∧
        (s.setSupply { s.supply with ring := [⟨5000, .grid, .own⟩] }).supply.ring.find?
          (fun y => y.interval == s.clock.c - 1) = some ⟨5000, .grid, .own⟩) ∧
      ∀ x ∈ [TxState.waiting, .sending, .echo], (linked { k with tx := x }).link.tx = x := by
  decide

theorem witness_ClrStartsTheSending :
    let s := (linked { Link.initial with tx := .waiting, copy := some ⟨3, 1⟩ }).setMeter
      { run.meter with ring := [own5000] }
    let u := s.setSupply { s.supply with ring := [⟨5000, .grid, .own⟩] }
    s.supervisor.powered = true ∧ s.link.tx = .waiting ∧ s.link.copy = some ⟨3, 1⟩ ∧ 1 ≤ s.clock.c ∧
      s.store.working = some work ∧ s.meter.ring.find? (fun y => y.interval == s.clock.c - 1) = some own5000 ∧
      s.supply.ring.find? (fun y => y.interval == s.clock.c - 1) = none ∧
      u.supply.ring.find? (fun y => y.interval == u.clock.c - 1) = some ⟨5000, .grid, .own⟩ ∧
      s.meter.snapshotParity = true ∧ s.store.op = none ∧
      (s.setMeter { s.meter with snapshotParity := false }).meter.snapshotParity = false := by decide

theorem witness_CopyTimers :
    let w : Link := { Link.initial with tx := .waiting, deferLimit := some 0 }
    let e : Link := { Link.initial with tx := .echo, echoWindow := some 0 }
    (linked w).supervisor.powered = true ∧ w.tx = .waiting ∧ w.deferLimit = some 0 ∧
      ({ w with tx := .sending } : Link).tx = .sending ∧ e.tx = .echo ∧ e.echoWindow = some 0 := by decide

theorem witness_RenumberingMarksTheQueue :
    let s := notified (.jump 7200 7202 .aligned 0)
    s.supervisor.powered = true ∧ s.link.tx ≠ .waiting ∧ s.link.inbox = [.jump 7200 7202 .aligned s.link.epoch] ∧
      s.store.completions ≤ s.link.epoch ∧
      (s.setLink { s.link with tx := .waiting }).link.tx = .waiting ∧
      completed.link.epoch < completed.store.completions := by decide

/-- A frame stamped before the clock's jump is marked at the link's take; one stamped after it is not (R31, R44). -/
theorem test_marks_at_a_jump :
    let s := (linked { Link.initial with
        queue := [⟨[], ⟨5001, 900, 0, 0⟩, false⟩, ⟨[], ⟨7202, 900, 1, 0⟩, false⟩]
        inbox := [.jump 5001 7202 .aligned 0] }).setClock { run.clock with jumps := 1 }
    (after .preJumpMark s).link.queue.map (·.preJump) = [true, false] := by decide

theorem witness_LinkInHoldUp :
    let n : Link := { Link.initial with tx := .sending, req := true, power := [.entry] }
    let x : Link := { Link.initial with tx := .suspended, power := [.exit] }
    (linked n).supervisor.powered = true ∧ n.power = [.entry] ∧ n.tx = .sending ∧
      ({ n with tx := .idle } : Link).tx = .idle ∧ x.power = [.exit] ∧ (linked x).pins.rxd = true ∧
      ((linked x).setPins { run.pins with rxd := false }).pins.rxd = false := by decide

/-- `run` with the table taking and this content queued. -/
def queued (content : List Byte) (preJump : Bool) : State :=
  (linked { Link.initial with queue := [⟨content, ⟨5001, 900, 0, 0⟩, preJump⟩] }).setPeers
    { Peers.initial with taking := true, tableInterval := 5001 }

/-- Content of another cooperative, and content with the own id. -/
def foreignContent : List Byte := frameContent { cfg with cooperative := 8 } 5001 890 own5000 .grid false ⟨3, 0⟩

/-- Content that carries the own id. -/
def ownContent : List Byte := frameContent cfg 5001 890 own5000 .grid false ⟨3, 0⟩

theorem witness_ForeignAndDuplicateFrames :
    let s := queued foreignContent false
    let u := queued ownContent false
    (s.supervisor.powered = true ∧ s.peers.taking = true ∧ s.link.queue = [⟨foreignContent, ⟨5001, 900, 0, 0⟩, false⟩] ∧
      s.store.working = some work ∧ (Frame.ofContent foreignContent).cooperative ≠ work.record.cooperative) ∧
    (u.link.queue = [⟨ownContent, ⟨5001, 900, 0, 0⟩, false⟩] ∧
      (Frame.ofContent ownContent).cooperative = work.record.cooperative ∧
      (Frame.ofContent ownContent).lengthCode = work.record.lengthCode ∧
      (Frame.ofContent ownContent).sender = work.record.nodeId ∧ 1 ≤ work.record.nodeId ∧
      work.record.nodeId ≤ 250) := by decide

/-- The frame of peer 12 waits in `queued content12 preJump`. -/
theorem frame12_waits (preJump : Bool) :
    PeerFrameWaits (queued content12 preJump) ⟨content12, ⟨5001, 900, 0, 0⟩, preJump⟩ [] (Frame.ofContent content12) where
  powered := rfl
  taking := rfl
  queue := rfl
  frame := rfl
  identity := ⟨work, rfl, by decide⟩
  sender := by decide

/-- A table of 48 ACTIVE entries, none of peer 12. -/
def fullTable : List Entry := (List.range 48).map fun n => { Entry.created (n + 13) with state := .active }

theorem witness_FirstFrameMakesAnActiveEntry :
    let s := queued content12 true
    let f := Frame.ofContent content12
    let held := s.setPeers { s.peers with entries := [Entry.created 12] }
    (s.peers.entries = [] ∧ f.ci = s.peers.tableInterval ∧ 1 ≤ f.ci ∧ f.restarted = false) ∧
    (held.peers.entries.find? (fun y => y.id == f.sender) = some (Entry.created 12) ∧
      held.peers.lookup f.sender = (some (Entry.created 12), held.peers) ∧
      (∀ y ∈ held.peers.entries, y.parity = true)) ∧
    ((queued content12 false).clock.jumps ≤ 0 ∧ (queued content12 false).store.completions ≤ 0 ∧
      (queued content12 false).store.completions ≤ (queued content12 false).clock.epoch ∧
      0 < ((queued content12 false).setClock { run.clock with jumps := 1 }).clock.jumps ∧
      0 < ((queued content12 false).setStore completed.store).store.completions ∧
      completed.clock.epoch < completed.store.completions) ∧
    (48 ≤ fullTable.length ∧
      ∀ y ∈ fullTable, y.parity = true ∧ y.id ≠ f.sender ∧ (y.state = .active ∨ y.state = .discordant)) := by decide

/-- The table of 48 with the first two entries as given. -/
def tableWith (a b : Entry) : Peers := { Peers.initial with entries := a :: b :: fullTable.drop 2 }

theorem witness_lookup_clauses :
    let old (id age : Nat) (x : EntryState) : Entry := { Entry.created id with state := x, age := age }
    let p := tableWith (old 13 9 .silent) (old 14 9 .silent)
    let q := tableWith (old 13 3 .learning) (old 14 2 .learning)
    let failing := tableWith { old 13 9 .silent with parity := false } (old 14 9 .silent)
    let upset : Peers := { Peers.initial with entries := [{ Entry.created 12 with parity := false }] }
    (upset.entries.length ≤ 48 ∧ (∃ y ∈ upset.entries, y.id = 12) ∧
      ∀ y ∈ upset.entries, y.id = 12 → y.parity = false) ∧
    (∀ t ∈ [p, q, failing], t.entries.length = 48 ∧ ∀ y ∈ t.entries, y.id ≠ 12) ∧
    ((∃ y ∈ p.entries, y.state = .silent) ∧ p.entries.Pairwise (fun a b => a.id < b.id) ∧
      old 13 9 .silent ∈ p.entries ∧ (∀ y ∈ p.entries, y.state = .silent → y.parity = true) ∧
      ∀ y ∈ p.entries, y.state = .silent → y.age < 9 ∨ (y.age = 9 ∧ 13 ≤ y.id)) ∧
    ((∀ y ∈ q.entries, y.state ≠ .silent) ∧ old 13 3 .learning ∈ q.entries ∧
      q.entries.Pairwise (fun a b => a.id < b.id) ∧ (∀ y ∈ q.entries, y.state = .learning → y.parity = true) ∧
      ∀ y ∈ q.entries, y.state = .learning → y.age < 3 ∨ (y.age = 3 ∧ 13 ≤ y.id)) ∧
    (∃ y ∈ failing.entries, y.state = .silent ∧ y.parity = false) := by decide

theorem witness_frame_classes :
    let e := Entry.created 12
    let f := Frame.ofContent content12
    let at' (c : Nat) : Peers := { Peers.initial with tableInterval := c }
    e.state ≠ .discordant ∧ ({ e with state := .discordant } : Entry).state = .discordant ∧
      (at' 4999).tableInterval + 1 < f.ci ∧ f.ci + 1 < (at' 5003).tableInterval ∧ e.anchor = none ∧
      (4999 : Nat) < f.ci - 1 ∧ f.ci - 1 ≤ 5000 := by decide

/-- An ACTIVE entry with the anchor of 4,998. -/
def entry12 : Entry :=
  { Entry.created 12 with state := .active, anchor := some ⟨4998, 100#32, 100#32⟩ }

theorem witness_RecoveryByDifference :
    let f := Frame.ofContent content12
    let g : Frame := { f with cumExport := 2000#32, cumImport := 500#32 }
    entry12.anchor = some ⟨4998, 100#32, 100#32⟩ ∧ 3 ≤ f.ci ∧ (4998 : Nat) = f.ci - 3 ∧
      (∀ y ∈ entry12.slots, y.label ≠ f.ci - 2) ∧ (5001 : Nat) ≤ f.ci ∧ f.saturated = false ∧
      (g.cumExport - BitVec.ofNat 32 g.exportWh - 100#32).toNat < 2 ^ 31 ∧
      (g.cumImport - BitVec.ofNat 32 g.importWh - 100#32).toNat < 2 ^ 31 ∧
      2 ^ 31 ≤ (f.cumExport - BitVec.ofNat 32 f.exportWh - 100#32).toNat := by decide

theorem witness_frames_in_the_window :
    let f := Frame.ofContent content12
    let e := Entry.created 12
    let at' (c : Nat) : Peers := { Peers.initial with tableInterval := c }
    e.state ≠ .discordant ∧ 1 ≤ f.ci ∧ f.ci = (at' 5000).tableInterval + 1 ∧
      (at' 5002).tableInterval = f.ci + 1 ∧ e.anchor = none ∧ e.recovery f 5000 = none ∧ 2 ≤ f.ci ∧
      (entry12.recovery f 5001).map (·.status) = some .broken ∧
      (entry12.recovery { f with cumExport := 2000#32, cumImport := 500#32 } 5001).map (·.status) = some .recovered ∧
      (4998 : Nat) < f.ci - 1 ∧ f.ci - 1 ≤ 5000 ∧ (4998 : Nat) + 3 = f.ci ∧ f.ci < 5002 := by decide

theorem witness_TableAgesAtBoundaries :
    let table (a : Machine.Alignment) := (notified (.boundary 5001 5002 a 0)).setPeers
      { Peers.initial with
        entries := [{ entry12 with age := 3 }, { entry12 with id := 13, state := .silent, age := 254 }]
        inbox := [.boundary 5001 5002 a 0] }
    (table .unaligned).supervisor.powered = true ∧
      (table .unaligned).peers.inbox = [.boundary 5001 5002 .unaligned (table .unaligned).peers.epoch] ∧
      (∀ e ∈ (table .unaligned).peers.entries, e.parity = true) ∧
      (table .unaligned).store.completions ≤ (table .unaligned).peers.epoch ∧
      (table .aligned).store.completions ≤ (table .aligned).peers.epoch ∧
      (table .aligned).peers.inbox = [.boundary 5001 5002 .aligned (table .aligned).peers.epoch] ∧ 2 ≤ 5001 ∧
      (table .aligned).peers.counters.parityDiscards ≤ 65535 ∧ (table .aligned).reckoning.lastParity = true ∧
      (table .aligned).reckoning.pending = [] ∧ ∀ l ∈ some 4998, l < 5001 - 2 := by decide

theorem witness_CommissioningAtTableAndReckoning :
    let s := completed.setReckoning { completed.reckoning with last := some 5000 }
    (completed.supervisor.powered = true ∧ completed.peers.epoch < completed.store.completions ∧
      completed.supervisor.op ≠ .start ∧ completed.reckoning.epoch < completed.store.completions ∧
      1 ≤ completed.completionC ∧ completed.reckoning.last = none) ∧
    (s.completionC = 5001 ∧ (5000 : Nat) = s.completionC - 1) ∧
    (State.reset.setStore { Store.initial with completions := 1 }).completionC = 0 ∧
    (completed.store.working = some work ∧ completed.clock.epoch < completed.store.completions ∧
      work.record.startInterval < completed.clock.c ∧
      (completed.setClock { completed.clock with c := 100 }).clock.c ≤ work.record.startInterval ∧
      run.store.completions ≤ run.clock.epoch) := by decide

/-- A notification issued before a configuration write that has completed waits at every block; none has taken it. -/
def outdated (n : Notice) : State := (notified n).setStore { run.store with completions := 1 }

theorem witness_old_notifications :
    let b := outdated (.boundary 5001 5002 .aligned 0)
    let j (k : Nat) := outdated (.jump k 7202 .aligned 0)
    let taken := (notified (.boundary 5002 5003 .aligned 0)).setReckoning
      { (notified (.boundary 5002 5003 .aligned 0)).reckoning with last := some 5000 }
    (b.supervisor.powered = true ∧ 0 < b.store.completions ∧ b.meter.inbox = [.boundary 5001 5002 .aligned 0] ∧
      b.link.inbox = [.boundary 5001 5002 .aligned 0] ∧ b.peers.inbox = [.boundary 5001 5002 .aligned 0] ∧
      b.supply.inbox = [.boundary 5001 5002 .aligned 0] ∧ (j 2).meter.inbox = [.jump 2 7202 .aligned 0] ∧
      (j 2).link.inbox = [.jump 2 7202 .aligned 0] ∧ (j 2).peers.inbox = [.jump 2 7202 .aligned 0] ∧
      (j 2).supply.inbox = [.jump 2 7202 .aligned 0]) ∧
    (b.reckoning.lastParity = true ∧ 0 ≤ b.reckoning.epoch ∧ b.reckoning.epoch < b.store.completions ∧
      b.reckoning.inbox = [.boundary 5001 5002 .aligned 0] ∧
      ∀ k ∈ [0, 1, 2], (j k).reckoning.inbox = [.jump k 7202 .aligned 0]) ∧
    (taken.reckoning.pending = [] ∧ taken.reckoning.last = some 5000 ∧ 5002 - 2 ≤ 5000) := by decide

/-- Such a boundary closes no supply record and leaves the last closed state, the own ring and the table as they were
(R13, R83, R130). -/
theorem test_old_boundary_is_discarded :
    let s := outdated (.boundary 5001 5002 .aligned 0)
    let upset := s.setSupply { s.supply with openRecord := ⟨3, 0, false, 3⟩ }
    let t := after .supplyRecordClosure upset
    t.supply.ring = [] ∧ t.supply.lastClosed = s.supply.lastClosed ∧ t.supply.openRecord = upset.supply.openRecord ∧
      t.supply.inbox = [] ∧ (after .boundarySnapshot s).meter.ring = [] ∧
      (after .peerTableBoundary s).peers.tableInterval = s.peers.tableInterval ∧
      (after .reckoningInstruction s).reckoning.repeats = 1 ∧ (after .reckoningInstruction s).reckoning.pending = [] := by
  decide

theorem witness_ModeByQuorum :
    1 ≤ 1 ∧ 2 ≤ 2 ∧ 2 * 100 < 67 * 3 ∧ 75 * 4 ≤ 3 * 100 ∧ 100 ≤ 100 := by decide

theorem witness_SharesOfASettlement :
    let x := run.settlement 5000 .regular own5000 none list5000
    let y := run.settlement 5000 .regular { own5000 with exportWh := 0 } none { counted := [], expected := 5 }
    x.price.isSome = true ∧ x.mode = .pooled ∧ x.role = .seller ∧ y.price.isSome = true ∧ y.mode = .lone ∧
      y.role = .buyer := by decide

theorem witness_AmountsOfASettlement :
    let x := run.settlement 5000 .regular own5000 none list5000
    let y := run.settlement 5000 .regular { own5000 with exportWh := 0 } none list5000
    let levied (n : Nat) := run.setReckoning { run.reckoning with inForce := some { cfg with levy := n } }
    x.price.isSome = true ∧ x.role = .seller ∧ y.price.isSome = true ∧ y.role = .buyer ∧ run.levy ≤ 1000 ∧
      (levied 0).levy = 0 ∧ (levied 1000).levy = 1000 ∧ own5000.exportWh ≤ 65535 ∧ own5000.importWh ≤ 65535 := by decide

/-- Every price of the example tariff lies in its range. -/
theorem witness_prices_in_range : ∀ k : Nat, run.price 1 k ≤ 65535 := by
  intro k
  have h : ∀ n ∈ cfg.prices, n ≤ 65535 := by decide
  show cfg.prices.getD (5 * 1 + k) 0 ≤ 65535
  rw [List.getD_eq_getElem?_getD]
  cases hk : cfg.prices[5 * 1 + k]? with
  | none => decide
  | some n => exact h n (List.mem_of_getElem? hk)

theorem witness_SupplyStateIsResolved :
    let p : CountedPeer := ⟨12, .direct, 0, 0, false, some .strained, false⟩
    (p.status = .direct ∧ p.supply = some .strained ∧ p.senderHeld = false) ∧
      (mostSevere ([p].filterMap CountedPeer.reported) = some .strained) := by decide

theorem witness_InstructionOpensAReckoning :
    let s := notified (.boundary 5002 5003 .aligned 0)
    let u := s.setReckoning { s.reckoning with last := some 4999 }
    let later := (PendingReckoning.opened (2 * 5003) 5001).take (.own none)
    s.supervisor.powered = true ∧ 2 ≤ 5002 ∧ u.store.completions ≤ u.reckoning.epoch ∧
      u.reckoning.inbox = [.boundary 5002 5003 .aligned u.reckoning.epoch] ∧
      u.reckoning.lastParity = true ∧ u.reckoning.pending = [] ∧ (∀ l ∈ u.reckoning.last, l < 5002 - 2) ∧
      later.interval ≠ 5002 - 2 ∧ 2 * 5002 + 1 < later.order := by decide

theorem witness_DroppedAndNoFigureReckonings :
    let s := run.setReckoning { run.reckoning with last := some 5000 }
    let p : PendingReckoning := ⟨5001, 10007, some .regular, some (some own5000), some none, none⟩
    s.reckoning.lastParity = true ∧ s.reckoning.last = some 5000 ∧ (5000 : Nat) ≤ 5000 ∧
      (∀ l ∈ s.reckoning.last, l < 5001) ∧ s.account.parity = true ∧
      (s.setReckoning { s.reckoning with pending := [p] }).reckoning.pending = [p] := by decide

theorem witness_PostingMovesTheBalance :
    let x := run.settlement 5000 .regular own5000 none list5000
    let y := run.settlement 5000 .regular { own5000 with exportWh := 0 } none list5000
    x.price.map (·.direction) = some .credit ∧ y.price.map (·.direction) = some .charge := by decide

theorem witness_DutyAndItsFrame :
    (Mode.pooled = .pooled ∧ 2175 < 2360) ∧ Mode.lone ≠ .pooled ∧ 1023 ≤ 1023 := by decide

theorem witness_SurGeneratorSteps :
    let at' (p n : Nat) : Outputs := { Outputs.initial with frameStartDue := false, period := p, step := n }
    run.supervisor.powered = true ∧ run.outputs.frameStartDue = true ∧ (at' 0 254).frameStartDue = false ∧
      (at' 0 254).step < 255 ∧ (at' 2 255).step = 255 ∧ (at' 2 255).period < 3 ∧ (at' 3 255).period = 3 := by decide

theorem witness_HouseholdLines :
    let due (s : State) := s.setOutputs { s.outputs with limDue := true }
    let entry := run.setOutputs { run.outputs with power := [.entry] }
    let exit := run.setOutputs { run.outputs with power := [.exit] }
    run.supervisor.powered = true ∧ run.store.working = some work ∧ run.supervisor.op ≠ .holdUp ∧
      (due run).outputs.limDue = true ∧ completed.outputs.epoch < completed.store.completions ∧
      entry.outputs.power = [.entry] ∧ exit.outputs.power = [.exit] ∧ (due State.reset).store.working = none ∧
      (run.setSupervisor { run.supervisor with op := .holdUp }).supervisor.op = .holdUp := by decide

/-- `run` with the converter as given. -/
def sensing (c : ConverterState) (x : Option Conversion) : State :=
  run.setSupply { run.supply with converter := c, settling := .stopped, flight := x, startDue := true }

theorem witness_ConversionsStart :
    let s := run.setSupply { run.supply with settling := .running 0 }
    s.supervisor.powered = true ∧ s.supply.converter = .settling ∧ s.supply.settling = .running 0 ∧
      s.supply.flight = none ∧ (sensing .ready none).supply.converter = .ready ∧
      (sensing .ready none).supply.startDue = true ∧ (sensing .converting none).supply.converter = .converting := by
  decide

theorem witness_FeederConversionsAreClassified :
    let x (a : Nat) (d : Bool) : Conversion := ⟨.feeder, a, 0#32, d, 0⟩
    let s (a : Nat) (d : Bool) := sensing .converting (some (x a d))
    let u := (s 16 false).setSupply { (s 16 false).supply with senseFault := true }
    (s 16 false).supervisor.powered = true ∧ (s 16 false).supply.converter = .converting ∧
      (s 16 false).supply.flight = some (x 16 false) ∧ (x 16 false).due = (s 16 false).meter.timebase ∧
      35001 ≤ (x 16 false).accumulation * 4095 ∧ 28999 * 2 + 1 ≤ (x 32 false).accumulation * 4095 ∧
      (x 16 false).accumulation ≤ 16 ∧ 16 < (x 32 false).accumulation ∧ (28999 * 2 + 1) / (32 / 16) = 28999 ∧
      (s 16 false).supply.senseFault = false ∧ 28999 < (s 16 false).windowLow ∧ (s 16 false).windowHigh < 35001 ∧
      u.supply.senseFault = true ∧ u.windowLow ≤ 29000 ∧ 35000 ≤ u.windowHigh ∧ (x 16 true).discard = true ∧
      (s 16 false).store.completions ≤ (x 16 false).completions ∧
      (x 16 false).completions < ((s 16 false).setStore completed.store).store.completions := by decide

theorem witness_ReferenceCheck :
    (31743 < 1984 * min 16 16 ∧ 1984 * min 64 16 ≤ 31744 ∧ 33792 ≤ 2112 * min 64 16 ∧ 2112 * min 16 16 < 33793) ∧
    ∀ a ∈ [16, 32],
      let x : Conversion := ⟨.reference, a, 0#32, false, 0⟩
      let s := sensing .converting (some x)
      s.supervisor.powered = true ∧ s.supply.converter = .converting ∧ s.supply.flight = some x ∧
        x.due = s.meter.timebase ∧ 31743 ≤ x.accumulation * 4095 ∧ x.channel = .reference ∧ x.discard = false ∧
        s.store.completions ≤ x.completions := by
  decide

theorem witness_IslandLatchAndClosure :
    let s := notified (.boundary 5001 5002 .aligned 0)
    let closing (o : OpenRecord) := s.setSupply { s.supply with openRecord := o }
    s.supervisor.powered = true ∧ s.pins.isl = false ∧ s.store.completions ≤ s.supply.epoch ∧
      s.supply.inbox = [.boundary 5001 5002 .aligned s.supply.epoch] ∧
      (closing ⟨0, 0, true, 0⟩).supply.openRecord.island = true ∧
      s.strain ≤ (closing ⟨3, 0, false, 3⟩).supply.openRecord.sag ∧
      s.strain ≤ (closing ⟨0, 3, false, 3⟩).supply.openRecord.swell ∧
      (closing ⟨2, 2, false, 1⟩).supply.openRecord.sag < s.strain ∧
      (closing ⟨2, 2, false, 1⟩).supply.openRecord.swell < s.strain ∧
      1 ≤ (closing ⟨2, 2, false, 1⟩).supply.openRecord.valid ∧ s.supply.openRecord.valid = 0 := by decide

theorem witness_SupplyHoldUpAndCommissioning :
    let entry := run.setSupply { run.supply with power := [.entry] }
    let exit := run.setSupply { run.supply with power := [.exit] }
    run.supervisor.powered = true ∧ entry.supply.power = [.entry] ∧ exit.supply.power = [.exit] ∧
      completed.supply.epoch < completed.store.completions := by decide

/-- A conversion in flight at the completion is marked at supply sense's take; one started after it is not (R121). -/
theorem test_marks_at_a_completion :
    ([0, 1].map fun n =>
      ((after .supplyCommissioning (completed.setSupply { completed.supply with
        flight := some ⟨.feeder, 16, 0#32, false, n⟩ })).supply.flight.map (·.discard))) =
      [some true, some false] := by decide

theorem witness_CheckpointRequestsAreTaken :
    let asked (t : Store) := run.setStore { t with inbox := [.boundary] }
    let used : Store := { run.store with
      array := { NvArray.blank with slots := (List.replicate 32 .erased).set 1 .damaged } }
    (run.supervisor.powered = true ∧ (asked run.store).store.inbox = [.boundary]) ∧
    (asked Store.initial).store.commissioning = .fresh ∧
    ((asked { run.store with failed := true }).store.commissioning ≠ .fresh ∧
      (asked { run.store with failed := true }).store.failed = true) ∧
    ((asked (storing (.programLock 0#16)).store).store.op ≠ none ∧ (asked run.store).store.pending = false ∧
      (asked { run.store with pending := true }).store.pending = true) ∧
    ((asked used).store.op = none ∧ (asked used).supervisor.resetPending = .none ∧
      (asked used).store.array.eraseNeeded (asked used).store.pointer = true) ∧
    ((asked run.store).store.array.eraseNeeded (asked run.store).store.pointer = false ∧
      (asked run.store).buildOk = true) := by decide

theorem witness_ErasesAndSlotProgramsComplete :
    let slot (n a : Nat) := (storing (.programSlot n [] a false)).setStore
      { (storing (.programSlot n [] a false)).store with pointer := n }
    run.supervisor.powered = true ∧ run.supervisor.resetPending = .none ∧
      (storing (.eraseConfig [] 1)).store.op = some (.eraseConfig [] 1) ∧
      (storing (.eraseConfig [] 2)).store.op = some (.eraseConfig [] 2) ∧ run.store.finalOwed = false ∧
      (storing (.eraseSector 1 1 none)).store.op = some (.eraseSector 1 1 none) ∧
      (slot 31 1).store.op = some (.programSlot 31 [] 1 false) ∧ (slot 31 1).store.pending = false ∧
      ((slot 31 1).store.array.slots.getD 31 .erased).isBlank = true ∧ (slot 31 1).store.nextSeq < 4294967295 ∧
      (slot 14 1).store.pointer % 16 < 15 ∧ (slot 14 2).store.op = some (.programSlot 14 [] 2 false) ∧
      1 * 16 < NvArray.blank.slots.length ∧ (storing (.eraseSector 1 2 none)).store.op = some (.eraseSector 1 2 none) ∧
      run.buildOk = true ∧
      (storing (.eraseSector 1 1 (some ([], true)))).store.op = some (.eraseSector 1 1 (some ([], true))) := by decide

theorem witness_pending_requests_and_the_final_report :
    let slot (n : Nat) (final : Bool) (a : NvArray) :=
      (storing (.programSlot n [] 1 final)).setStore
        { (storing (.programSlot n [] 1 final)).store with pointer := n, pending := !final, finalOwed := final, array := a }
    let used : NvArray := { NvArray.blank with slots := (List.replicate 32 .erased).set 1 .damaged }
    let restarting := (slot 31 true .blank).setSupervisor
      { run.supervisor with resetPending := .requested, finalAwaited := true }
    (∀ a ∈ [NvArray.blank, used], (slot 31 false a).supervisor.resetPending = .none ∧
      (slot 31 false a).store.op = some (.programSlot 31 [] 1 false) ∧ (slot 31 false a).store.pending = true ∧
      (slot 31 false a).store.commissioning ≠ .fresh ∧
      ((slot 31 false a).store.array.slots.getD 31 .erased).isBlank = true ∧
      (slot 31 false a).store.nextSeq < 4294967295 ∧ (slot 31 false a).buildOk = true ∧
      (slot 31 false a).store.pointer + 1 = 32) ∧
    ({ used with slots := used.slots.set 31 (.written []) } : NvArray).eraseNeeded 0 = true ∧
    ({ NvArray.blank with slots := NvArray.blank.slots.set 31 (.written []) } : NvArray).eraseNeeded 0 = false ∧
    (restarting.supervisor.resetPending = .requested ∧ restarting.supervisor.armed = false ∧
      restarting.supervisor.finalAwaited = true ∧ restarting.store.finalOwed = true ∧
      (restarting.store.array.slots.getD 31 .erased).isBlank = true ∧ restarting.store.nextSeq < 4294967295 ∧
      restarting.store.op = some (.programSlot 31 [] 1 true)) := by decide

theorem witness_ConfigurationAndLockComplete :
    run.supervisor.powered = true ∧ run.supervisor.resetPending = .none ∧ run.store.pending = false ∧
      (storing (.programConfig [])).store.op = some (.programConfig []) ∧
      (storing (.programLock 7#16)).store.op = some (.programLock 7#16) ∧ (8#16 : Word16) ≠ 7#16 := by decide

/-- The configuration record of 96 zero bytes, its check value the tag of a checkpoint. -/
def zeroRecord : List Byte := configurationRecord (List.replicate 96 0#8)

set_option maxRecDepth 200000 in
theorem witness_SelectionRestoresTheNewest :
    let tagged := Checkpoint.bytes ⟨1, crc16 (List.replicate 96 0#8), 5#32, 6#32, 5001, some 4999, Account.initial.ledger⟩
    let a : NvArray := { NvArray.blank with
      config := .written zeroRecord, slots := (List.replicate 32 .erased).set 3 (.written tagged) }
    let s := State.reset.setStore { Store.initial with array := a }
    let lost := State.reset.setSupervisor { Supervisor.initial with mains := .lost }
    State.reset.supervisor.powered = true ∧ State.reset.supervisor.op = .start ∧
      State.reset.supervisor.mains = .present ∧ lost.supervisor.mains = .lost ∧
      (after .selectionEvent State.reset).store.newest = none ∧
      (after .selectionEvent s).store.newest = some ⟨3, 1⟩ ∧ s.store.array.slots.getD 3 .erased = .written tagged ∧
      a.newestValid (some (crc16 (List.replicate 96 0#8))) = some ⟨3, 1⟩ ∧ NvArray.blank.newestValid (some 0#16) = none ∧
      (Store.restarted a).working.isSome = true ∧ (Store.restarted NvArray.blank).working = none ∧
      (Store.restarted { NvArray.blank with lock := .written (lockMarker 7#16) }).commissioning = .locked ∧
      (Store.restarted { NvArray.blank with lock := .written (lockMarker 7#16) }).tag = some 7#16 ∧
      (let t := after .selectionEvent s
       let u := after .selectionEvent (State.reset.setStore { Store.initial with array := { a with config := .erased } })
       (Place.written tagged).passing 191 = some tagged ∧ checkpointSeq tagged = 1 ∧ t.store.nextSeq = 2 ∧
        t.store.pointer = 4 ∧ u.store.newest = none ∧ u.store.nextSeq = 2 ∧ u.store.pointer = 4 ∧
        (after .selectionEvent State.reset).store.nextSeq = 1 ∧
        (after .selectionEvent State.reset).store.pointer = 0) := by decide

theorem witness_MainsAndPower :
    let low := run.setSupervisor { run.supervisor with measure := some 0#32 }
    let at' (m : Supervisor) (now : Word32) := (run.setSupervisor m).setMeter { run.meter with timebase := now }
    let lost : Supervisor := { run.supervisor with mains := .lost, op := .holdUp, measure := some 0#32 }
    (run.supervisor.powered = true ∧ run.pins.mns = true ∧ run.supervisor.mains = .present) ∧
    ((at' low.supervisor 20#32).supervisor.measure = some 0#32 ∧ (at' low.supervisor 20#32).supervisor.op = .run ∧
      20 ≤ ((at' low.supervisor 20#32).meter.timebase - 0#32).toNat) ∧
    ((at' lost 200#32).supervisor.mains = .lost ∧ (at' lost 200#32).supervisor.op = .holdUp ∧
      200 ≤ ((at' lost 200#32).meter.timebase - 0#32).toNat) ∧
    (run.pins.slo = false ∧ run.store.op = none) ∧
    (off.supervisor.powered = false ∧ (off.setPins { off.pins with slo := true }).pins.slo = true ∧ off.pins.mns = true) ∧
    (off.setSupervisor { off.supervisor with powerUp := some 0 }).supervisor.powerUp = some 0 ∧
    (let s := State.reset.setSupervisor { Supervisor.initial with riseDue := true }
     s.supervisor.powered = true ∧ s.supervisor.op = .start ∧ s.supervisor.riseDue = true ∧
      State.reset.supervisor.op = .start ∧ State.reset.supervisor.riseDue = false ∧ State.reset.store.op = none ∧
      run.supervisor.op ≠ .start) := by
  decide

/-- The rise that follows the 200 ms event of its power-up has no effect; one in a START that a REQUESTED reset entered
makes a POWER reset (R184). -/
theorem test_power_on_level_in_start :
    let asked : CauseRecord := ⟨some .requested, 1, 0, false⟩
    let s (rise : Bool) := State.reset.setSupervisor { Supervisor.initial with cause := asked, riseDue := rise }
    (after .powerOnLevel (s true)).supervisor.cause = asked ∧
      (after .powerOnLevel (s false)).supervisor.cause = ⟨some .power, 0, 0, false⟩ := by decide

/-- `run` with the port as given. -/
def ported (p : Port) : State := run.setPort p

theorem witness_PortReceivesAndResponds :
    let r : Port := { Port.initial with state := .receiving, assembly := [0x5A#8, 1#8], gap := some 0 }
    let sent : Port := { Port.initial with state := .responding, held := some ⟨0x0A#8, []⟩ }
    let held : Port := { Port.initial with state := .executing, held := some ⟨0x0B#8, []⟩, heldDue := true }
    let c := checkBytes [1#8, 0#8]
    let last : Port := { r with assembly := [0x5A#8, 1#8, 0#8] ++ [c.getD 0 0#8] }
    let pending := (ported sent).setSupervisor { run.supervisor with resetPending := .requested }
    run.supervisor.powered = true ∧ run.port.state = .wait ∧ (0x5B#8 : Byte) ≠ 0x5A#8 ∧
      (ported r).port.state = .receiving ∧ (ported r).port.assembly = [0x5A#8, 1#8] ∧ (ported r).port.gap = some 0 ∧
      (ported sent).port.state = .responding ∧ (ported sent).supervisor.resetPending = .none ∧
      pending.supervisor.resetPending = .requested ∧ pending.port.held = some ⟨0x0A#8, []⟩ ∧ pending.store.op = none ∧
      (ported held).port.heldDue = true ∧ (ported held).port.state = .executing ∧ (ported held).port.begun = false ∧
      (ported held).port.held = some ⟨0x0B#8, []⟩ ∧ ({ r with assembly := [0x5A#8] } : Port).assembly = [0x5A#8] ∧
      (ported { Port.initial with heldDue := true }).port.held = none ∧
      2 ≤ r.assembly.length ∧ ((r.assembly ++ [0#8]).getD 2 0#8).toNat ≤ 96 ∧
      r.assembly.length < ((r.assembly ++ [0#8]).getD 2 0#8).toNat + 4 ∧ 96 < (97#8 : Byte).toNat ∧
      last.assembly = 0x5A#8 :: 1#8 :: BitVec.ofNat 8 ([] : List Byte).length :: ([] ++ [c.getD 0 0#8]) ∧
      [c.getD 0 0#8, c.getD 1 0#8] = checkBytes (1#8 :: BitVec.ofNat 8 ([] : List Byte).length :: []) ∧
      RequestKind.ofByte 1#8 = some .status ∧ ([] : List Byte).length = RequestKind.status.bodyLength ∧
      RequestKind.ofByte 0x0C#8 = none ∧ RequestKind.ofByte 3#8 = some .peekRecords ∧
      ([] : List Byte).length ≠ RequestKind.peekRecords.bodyLength := by decide

theorem witness_ReadingRequestsAnswer :
    run.supervisor.powered = true ∧ run.supervisor.op ≠ .start ∧ run.port.state = .wait ∧
      run.meter.countersOk = true ∧ run.reckoning.lastParity = true ∧ run.account.parity = true ∧
      1 ≤ (1#8 : Byte).toNat ∧ (4#8 : Byte).toNat ≤ 4 ∧ (0#8 : Byte).toNat = 0 ∧ 4 < (5#8 : Byte).toNat ∧
      (47#8 : Byte).toNat ≤ 47 ∧ 47 < (48#8 : Byte).toNat ∧ (∀ e ∈ run.peers.entries, e.parity = true) ∧
      ({ entry12 with parity := false } : Entry).parity = false ∧
      ({ entry12 with parity := false } : Entry).bytes.length ≤ 251 := by decide

/-- The 96 field bytes of a COMMISSION request that are accepted on a fresh node. -/
def acceptedBody : List Byte :=
  beBytes 2 7 ++ beBytes 1 40 ++ beBytes 1 2 ++ beBytes 4 0 ++ beBytes 2 900 ++ [1#8, 1#8] ++ beBytes 2 100
    ++ [3#8, 60#8, 75#8] ++ beBytes 2 25 ++ List.replicate 24 0#8 ++ List.replicate 40 0#8 ++ [4#8, 10#8]
    ++ beBytes 2 29000 ++ beBytes 2 35000 ++ [3#8] ++ beInt 6 (-20000)

theorem witness_commission_accepted :
    acceptedBody.length = 96 ∧ State.reset.store.commissioning ≠ .locked ∧
      (Configuration.ofBytes acceptedBody).firstBad State.reset.clock.c State.reset.reckoning.last = none ∧
      (Configuration.ofBytes acceptedBody).limitFloor = -20000 ∧
      (Configuration.ofBytes acceptedBody).firstBad 1 none = some 4 := by decide

theorem witness_ChangingRequestsAreCarriedOut :
    let fresh := State.reset.setSupervisor { Supervisor.initial with op := .run }
    let busy := (storing (.programLock 0#16)).setReckoning { run.reckoning with last := some 4294967294 }
    (fresh.supervisor.powered = true ∧ fresh.supervisor.op ≠ .start ∧ fresh.port.state = .wait ∧
      fresh.store.op = none ∧ fresh.store.failed = false ∧ fresh.store.commissioning = .fresh ∧
      fresh.supervisor.resetPending = .none ∧ (run.setStore { run.store with failed := true }).store.failed = true) ∧
    (run.store.commissioning = .commissioned ∧ run.store.lock = .blank ∧ run.store.working = some work ∧
      run.store.op = none ∧ run.supervisor.op = .run ∧ run.supply.flight = none ∧ run.link.tx = .idle) ∧
    (busy.store.commissioning ≠ .fresh ∧ busy.store.op ≠ none ∧ busy.store.pending = false ∧
      busy.account.parity = true ∧ busy.reckoning.last = some 4294967294 ∧ 4294967294 < 4294967295) ∧
    (let idle := run.setReckoning { run.reckoning with last := some 4294967294 }
     let used : NvArray := { NvArray.blank with slots := (List.replicate 32 .erased).set 1 .damaged }
     idle.store.commissioning ≠ .fresh ∧ idle.store.op = none ∧ idle.store.failed = false ∧
      idle.supervisor.resetPending = .none ∧ idle.account.parity = true ∧ idle.reckoning.last = some 4294967294 ∧
      idle.store.array.eraseNeeded idle.store.pointer = false ∧ idle.buildOk = true ∧ used.eraseNeeded 0 = true ∧
      busy.supervisor.resetPending = .none ∧ busy.store.failed = false) ∧
    ((linked { Link.initial with tx := .sending }).link.tx = .sending ∧
      (run.setStore { run.store with commissioning := .locked }).store.commissioning = .locked ∧
      (run.setStore { run.store with lock := .spoilt }).store.lock = .spoilt) := by decide

theorem witness_ClearCauseClearsTheRecord :
    let s := ported { Port.initial with state := .executing, held := some ⟨0x0B#8, []⟩ }
    s.supervisor.powered = true ∧ s.supervisor.op ≠ .start ∧ s.port.state = .executing ∧
      s.port.held = some ⟨0x0B#8, []⟩ ∧ s.port.begun = false := by decide

/-! ### Witnesses of further clauses -/

/-- A ring with room and a full one whose lowest interval, 5, stands second and again last: the first of the two leaves
(R9, R127). -/
theorem witness_EntersRing :
    [9, 5].length < 3 ∧ 3 ≤ [9, 5, 5].length ∧ [9, 5, 5] = [9] ++ 5 :: [5] ∧ (∀ z ∈ [9, 5, 5], 5 ≤ z) ∧
      (∀ z ∈ [9], 5 < z) ∧ enterRing id [9, 5, 5] 7 = [9, 5, 7] := by decide

theorem witness_ReceivedBytesAreAssembled_echo_and_fault :
    let k (bs : List Byte) : Link := { Link.initial with tx := .echo, rx := .receiving, assembly := bs }
    (k [0xC3#8]).tx ≠ .suspended ∧ (k [0xC3#8]).rx = .receiving ∧ (k [0xC3#8]).assembly = [0xC3#8] ∧
      2 ≤ (k (List.replicate 2 0#8)).assembly.length ∧ (k (List.replicate 26 0#8)).assembly.length < 27 ∧
      (linked { Link.initial with rx := .fault }).link.tx ≠ .suspended := by decide

/-- A stamp of the clock's position; one of a new numbering at or above c; and one of a new numbering below c, with r held
to the new interval length (R32, R46). -/
theorem witness_StampPosition :
    let early := completed.setClock { completed.clock with c := 99 }
    StampPosition run 5001 900 ∧ StampPosition early 100 450 ∧ StampPosition completed 5001 900 := by
  refine ⟨⟨fun _ => ⟨rfl, rfl⟩, ?_⟩, ⟨?_, ?_⟩, ⟨?_, ?_⟩⟩
  · intro w _ h
    exact absurd h (by decide)
  · intro h
    exact absurd h (by decide)
  · intro w h _
    cases h
    exact ⟨fun _ => ⟨rfl, rfl⟩, fun h => absurd h (by decide)⟩
  · intro h
    exact absurd h (by decide)
  · intro w h _
    cases h
    exact ⟨fun h => absurd h (by decide), fun _ => ⟨rfl, rfl⟩⟩

theorem witness_OwnEchoDecidesTheCopySent_collisions :
    let k : Link := { Link.initial with tx := .echo, rx := .receiving, assembly := [0xC3#8] }
    k.tx = .echo ∧ k.rx = .receiving ∧ k.assembly = [0xC3#8] ∧ (23#8 : Byte) ≠ 24#8 ∧ (25#8 : Byte) ≠ 24#8 ∧
      8 ≤ ({ k with queue := List.replicate 8 ⟨content12, ⟨0, 0, 0, 0⟩, false⟩ } : Link).queue.length := by decide

/-- A copy that would start with no record of c - 1 held: c at 0, no configuration, and a ring with the records of c and
c - 2 only (R51); and one whose snapshot fails its parity check (R6). -/
theorem witness_no_record_for_a_copy :
    let k : Link := { Link.initial with
      schedule := [⟨0, 107⟩], elapsed := 107, scheduleCount := 3, copy := some ⟨3, 0⟩ }
    let s (xs : List OwnRecord) := ((linked k).setPins { run.pins with clr := true }).setMeter { run.meter with ring := xs }
    let failed := (s [own5000]).setMeter { (s [own5000]).meter with snapshotParity := false }
    ((s []).pins.clr = true ∧ k.rx ≠ .fault ∧ k.copy = some ⟨3, 0⟩ ∧
      ((s []).setClock { run.clock with c := 0 }).clock.c = 0 ∧
      ((s []).setStore { run.store with working := none }).store.working = none ∧
      (∀ y ∈ (s [{ own5000 with interval := 4999 }, { own5000 with interval := 5001 }]).meter.ring,
        y.interval ≠ (s []).clock.c - 1)) ∧
    (failed.meter.snapshotParity = false ∧ failed.store.working ≠ none ∧ failed.store.op = none ∧
      failed.meter.ring.find? (fun y => y.interval == failed.clock.c - 1) = some own5000) := by decide

/-- Frames that are foreign by their length code and by a sender id of 0 and of 251, and a node with no working
configuration (R66). -/
theorem witness_foreign_frames :
    let f (g : Configuration) := Frame.ofContent (frameContent g 5001 890 own5000 .grid false ⟨3, 0⟩)
    (f { cfg with lengthCode := 3 }).lengthCode ≠ cfg.lengthCode ∧ (f { cfg with nodeId := 0 }).sender = 0 ∧
      250 < (f { cfg with nodeId := 251 }).sender ∧
      ((queued foreignContent false).setStore Store.initial).store.working = none := by decide

/-- A slot that a commissioning left below the window is freed with the slot of k - 2 at the next boundary, and the
slots of k - 1 and k stay (R62). -/
theorem test_boundary_frees_every_slot_below_the_window :
    let slot (j : Nat) : Slot := ⟨j, .direct, 0, 0, false, some .grid, false⟩
    let e : Entry := { entry12 with slots := [slot 4998, slot 4999, slot 5000, slot 5001] }
    (e.atBoundary 5001).map (·.slots.map (·.label)) = some [5000, 5001] := by decide

/-- A SELLER in a POOLED village, a BUYER alone, an IDLE household and a unit with no configuration, with the sums of the
participants' nets (R100, R101, R104, R107, R133). -/
theorem witness_SharesOfASettlement_records :
    let nets (own : OwnRecord) (l : ParticipantList) : List Int :=
      ((own.exportWh : Int) - own.importWh) :: l.counted.map (fun p => (p.exportWh : Int) - p.importWh)
    let idle : OwnRecord := { own5000 with exportWh := 310 }
    (nets own5000 list5000 = [1530, -1200, 830, -975, 0] ∧ ((nets own5000 list5000).map fun n => max n 0).sum = 2360 ∧
      ((nets own5000 list5000).map fun n => max (-n) 0).sum = 2175) ∧
    (own5000.importWh < own5000.exportWh ∧ idle.exportWh = idle.importWh ∧
      ({ own5000 with exportWh := 309 } : OwnRecord).exportWh < 310) ∧
    (run.settlement 5000 .regular idle none list5000).price = none ∧
    (run.settlement 5000 .cutShort own5000 none ⟨[], 0⟩).mode = .lone ∧
    (run.settlement 5000 .cutShort own5000 none list5000).mode ≠ .lone ∧ run.reckoning.inForce = some cfg ∧
    State.reset.reckoning.inForce = none := by decide

/-- The levels of LIM: below the floor, at the floor, in HOLD-UP, and with no configuration (R153, R154). -/
theorem witness_LimLevel :
    let holding := run.setSupervisor { run.supervisor with op := .holdUp }
    LimLevel run (-20001) true ∧ LimLevel run (-20000) false ∧ LimLevel holding (-20001) false ∧
      LimLevel State.reset (-20001) false := by
  refine ⟨⟨?_, ?_⟩, ⟨?_, ?_⟩, ⟨?_, fun _ => rfl⟩, ⟨?_, fun _ => rfl⟩⟩
  · intro w h _
    cases h
    rfl
  · exact fun h => absurd h (by decide)
  · intro w h _
    cases h
    rfl
  · exact fun h => absurd h (by decide)
  · exact fun w _ h => absurd rfl h
  · intro w h
    cases h

/-- The last input of a ready reckoning in its four forms, one ready behind it, one that waits ahead of it, and a boundary
whose list came first (R89, R93). -/
theorem witness_last_inputs :
    let ready : PendingReckoning := ⟨5001, 10007, some .regular, some (some own5000), some none, some list5000⟩
    let next : PendingReckoning := { ready with interval := 5002 }
    let first : PendingReckoning := { ready with interval := 5000, list := none }
    let holds (ps : List PendingReckoning) := run.setReckoning { run.reckoning with pending := ps, last := some 5000 }
    let instructed := (notified (.boundary 5003 5004 .aligned 0)).setReckoning
      { (notified (.boundary 5003 5004 .aligned 0)).reckoning with
        last := some 5000, pending := [⟨5001, 10007, none, none, none, some list5000⟩] }
    (∀ p ∈ [{ ready with kind := none }, { ready with own := none }, { ready with supply := none },
        { ready with list := none }], (holds [p]).reckoning.pending = [p] ∧
        (holds [p, next]).reckoning.pending = [p, next] ∧ (holds [first, p]).reckoning.pending = [first, p] ∧
        (holds [p]).reckoning.lastParity = true) ∧
    next = { next with
      kind := some .regular, own := some (some own5000), supply := some none, list := some list5000 } ∧
    (State.reckon 5001 .regular (some own5000) none list5000 (holds [next])).run.reckoning.pending = [next] ∧
    first.list = none ∧ first.interval ≠ 5001 ∧
    (instructed.store.completions ≤ instructed.reckoning.epoch ∧ 2 ≤ 5003 ∧ 5001 = 5003 - 2 ∧
      instructed.reckoning.inbox = [.boundary 5003 5004 .aligned instructed.reckoning.epoch] ∧
      instructed.reckoning.pending = [⟨5001, 2 * 5003 + 1, none, none, none, some list5000⟩]) := by decide

/-- An IDLE record, a queue with room for one more and a full one (R137, R145). -/
theorem witness_PostingMovesTheBalance_queue :
    let x := run.settlement 5000 .cutShort { own5000 with exportWh := 310 } none list5000
    let q (n : Nat) := run.setQueue ⟨List.replicate n x, 65535⟩
    x.price = none ∧ x.cutShort = true ∧ (q 23).queue.records.length < 24 ∧ 24 ≤ (q 24).queue.records.length ∧
      (q 24).queue.records = x :: List.replicate 23 x ∧ ((q 24).post x).queue.lost = 65535 := by decide

/-- The worked record of 5,000 with its balance lies within the ranges of R214. -/
theorem witness_settlement_in_range :
    SettlementInRange { run.settlement 5000 .regular own5000 (some ⟨5000, .grid, .own⟩) list5000 with
      balance := -140737488355327 } where
  interval := by decide
  band := by decide
  own := by decide
  village := by
    intro v h
    have h' : some (⟨5, 6, 2360, 2175⟩ : VillageBlock) = some v := h
    cases h'
    decide
  price := by
    intro b h
    have h' : some (⟨1410, 120, 180, 60, 254655, .credit, 6345⟩ : PriceBlock) = some b := h
    cases h'
    decide
  balance := by decide

/-- An entry with every optional field and three slots lies within its ranges. -/
theorem witness_entry_in_range :
    EntryInRange { entry12 with
      lead := some (-2147483647)
      slots := [4999, 5000, 5001].map fun j => ⟨j, .recovered, 65535, 0, true, none, false⟩ } where
  small := by decide
  lead := by
    intro n h
    cases h
    decide
  anchor := by
    intro a h
    cases h
    decide
  slots := by decide

theorem witness_ledger_in_range : LedgerInRange ⟨fullFigures, 7, 5001, some ⟨6, 4320, none, fullFigures, 65535⟩⟩ where
  numbers := by decide
  figures := witness_figures_in_range
  summary := by
    intro y h
    cases h
    exact ⟨by decide, (fun k h => by cases h), witness_figures_in_range⟩

/-- CLOSE-PERIOD with no interval reckoned, with the store FAILED, with a request pending and with an erase needed (R139,
R164, R204). -/
theorem witness_close_period_states :
    let used : NvArray := { NvArray.blank with slots := (List.replicate 32 .erased).set 1 .damaged }
    let merging := (storing (.programLock 0#16)).setStore { (storing (.programLock 0#16)).store with pending := true }
    (run.reckoning.last = none ∧ run.store.commissioning ≠ .fresh ∧ run.account.parity = true) ∧
      (run.setStore { run.store with failed := true }).store.failed = true ∧
      (merging.store.op ≠ none ∧ merging.store.pending = true ∧ merging.store.failed = false) ∧
      (let s := run.setStore { run.store with array := used }
       s.store.op = none ∧ s.store.failed = false ∧ s.supervisor.resetPending = .none ∧
        s.store.array.eraseNeeded s.store.pointer = true) := by decide

/-- RESTART-BLOCK in the transmit states, with a conversion in flight, in HOLD-UP and with other selectors (R57, R123,
R205). -/
theorem witness_restart_block_states :
    (∀ x ∈ [TxState.idle, .waiting, .sending, .echo, .suspended], (linked { Link.initial with tx := x }).link.tx = x) ∧
      (sensing .converting (some ⟨.feeder, 16, 0#32, false, 0⟩)).supply.flight ≠ none ∧ run.supply.flight = none ∧
      (run.setSupervisor { run.supervisor with op := .holdUp }).supervisor.op = .holdUp ∧
      ∀ b ∈ [(0#8 : Byte), 3#8], b ≠ 1#8 ∧ b ≠ 2#8 := by decide

/-- The example configuration is accepted on a clock at c = 100 with 99 last reckoned, and each field that stands one
above or below its range is the first bad one (R201, R215). -/
theorem test_first_bad_field :
    let bad (g : Configuration) := g.firstBad 100 (some 99)
    cfg.bandMap.length = 24 ∧ bad cfg = none ∧ cfg.firstBad 101 none = some 4 ∧ cfg.firstBad 100 (some 100) = some 4 ∧
      bad { cfg with nodeId := 251 } = some 2 ∧ bad { cfg with startRemaining := 901 } = some 5 ∧
      bad { cfg with spacing := 19, copies := 1 } = some 8 ∧ bad { cfg with bandMap := List.replicate 24 4 } = some 13 ∧
      bad { cfg with accumulationCode := 8 } = some 57 ∧ bad { cfg with windowLow := 35001 } = some 60 ∧
      bad { cfg with limitFloor := 1 } = some 62 := by decide

/-- Every condition of the accepted ranges holds of the example configuration at c = 100 with 99 last reckoned, so the
predicate that accepts every index meets them all. -/
theorem witness_accepted_fields :
    cfg.bandMap.length = 24 ∧ 1 ≤ cfg.cooperative ∧ cfg.cooperative ≤ 65535 ∧ 1 ≤ cfg.nodeId ∧ cfg.nodeId ≤ 250 ∧
      cfg.lengthCode ≤ 4 ∧ 100 ≤ cfg.startInterval ∧ (∀ k ∈ some 99, k < cfg.startInterval) ∧
      1 ≤ cfg.startRemaining ∧ cfg.startRemaining ≤ intervalLength cfg.lengthCode ∧ 1 ≤ cfg.importWeight ∧
      cfg.importWeight ≤ 100 ∧ 1 ≤ cfg.exportWeight ∧ cfg.exportWeight ≤ 100 ∧ 20 ≤ cfg.spacing ∧
      cfg.spacing ≤ 2000 ∧ 2 ≤ cfg.copies ∧ cfg.copies ≤ 4 ∧ 10 ≤ cfg.guardSeconds ∧ cfg.guardSeconds ≤ 120 ∧
      cfg.quorum ≤ 100 ∧ cfg.levy ≤ 1000 ∧ (∀ h < 24, cfg.bandMap.getD h 0 ≤ 3) ∧ cfg.accumulationCode ≤ 7 ∧
      2 ≤ cfg.sensePeriod ∧ cfg.sensePeriod ≤ 60 ∧ cfg.windowLow ≤ cfg.windowHigh ∧ 1 ≤ cfg.strain ∧
      cfg.strain ≤ 15 ∧ -140737488355327 ≤ cfg.limitFloor ∧ cfg.limitFloor ≤ 0 := by decide

/-! ### Witnesses at the ends of ranges -/

/-- The largest copy count and index of a frame (R212), the two configurations, and the seconds of every length code. -/
theorem witness_frame_marks_and_parameters :
    (15 < 16 ∧ (CopyMark.mk 15 15).count < 16 ∧ (CopyMark.mk 15 15).index < 16) ∧
      run.store.working = some work ∧ State.reset.store.working = none ∧ run.meter.boundaryOk = true ∧
      run.weight .exp = 10 ∧ run.spacing = 100 ∧ run.sensePeriod = 10 ∧ run.strain = 3 ∧ run.accumulation = 16 ∧
      [0, 1, 2, 3, 4].map intervalLength = [300, 600, 900, 1800, 3600] := by decide

/-- Inputs that return NONE: the pre-jump mark, and remaining values of 0 and of L + 1 (R22). -/
theorem witness_unusable_inputs :
    ({ inputAt 5001 840 with preJump := true } : AlignmentInput).preJump = true ∧ (inputAt 5001 0).ri = 0 ∧
      intervalLength run.clock.lengthCode < (inputAt 5001 901).ri := by decide

/-- A schedule built with an earlier copy in WAITING, SENDING and ECHO (R47, R53). -/
theorem witness_schedule_built_over_a_copy :
    ∀ x ∈ [TxState.waiting, .sending, .echo],
      let s := (linked { Link.initial with tx := x, inbox := [.boundary 5000 5001 .aligned 0] }).setMeter
        { run.meter with ring := [own5000] }
      s.link.tx = x ∧ s.link.tx ≠ .suspended ∧ s.link.inbox = [.boundary 5000 5001 .aligned s.link.epoch] ∧
        s.meter.inbox = [] ∧ s.meter.ring.find? (fun y => y.interval == 5000) = some own5000 ∧
        s.meter.snapshotParity = true := by decide

/-- A full table without a victim for an unmarked and a marked frame of peer 12, and a frame with ci = 0 (R68, R71). -/
theorem witness_frames_without_an_entry :
    let full (mark : Bool) := (queued content12 mark).setPeers { (queued content12 mark).peers with entries := fullTable }
    let zero : Frame := { Frame.ofContent content12 with ci := 0 }
    (∀ mark ∈ [false, true], ((full mark).peers.lookup 12).1 = none) ∧ (Frame.ofContent content12).sender = 12 ∧
      (full false).clock.jumps ≤ 0 ∧ (full false).store.completions ≤ (full false).clock.epoch ∧
      (Entry.created 12).state ≠ .discordant ∧ zero.ci = 0 := by decide

/-- A settling timer at 0 with a conversion in flight, and discarded conversions with the converter HALTED, settling and
settled (R115, R122). -/
theorem witness_conversions_kept_and_discarded :
    let x : Conversion := ⟨.feeder, 16, 0#32, true, 0⟩
    let s (c : ConverterState) (t : SettlingTimer) :=
      (sensing c (some x)).setSupply { (sensing c (some x)).supply with settling := t }
    (∀ t ∈ [SettlingTimer.running 0, .running 1999, .expired],
      (s .settling t).supply.converter = .settling ∧ (s .settling t).supply.settling = t ∧
        (s .settling t).supply.flight = some x ∧ x.due = (s .settling t).meter.timebase) ∧
      (s .halted .stopped).supply.converter = .halted ∧ (s .halted .stopped).supply.flight = some x ∧
      x.discard = true := by decide

/-- Sectors that need an erase, by their last slot, and none; a place that only reads erased; a place that holds no lock
marker (R157, R159, R167). -/
theorem witness_places :
    let used (i : Nat) : NvArray := { NvArray.blank with slots := (List.replicate 32 .erased).set i (.written [0#8]) }
    ((used 15).eraseNeeded 0 = true ∧ (used 15).eraseNeeded 16 = false ∧ (used 31).eraseNeeded 16 = true ∧
      (used 15).eraseNeeded 15 = false) ∧
    ((Place.written [0xFF#8]).isBlank = true ∧ (Place.written [0#8]).isBlank = false ∧
      (Place.written [0#8]).lockCheck = none ∧ Place.damaged.isBlank = false ∧ Place.damaged.lockCheck = none) := by
  decide

set_option maxRecDepth 200000 in
/-- Start reads with the lock place MARKED and not, each with a record that passes and without (R159). -/
theorem witness_start_reads :
    let marker (v : Word16) : Place := .written (lockMarker v)
    let read (config lock : Place) := Store.restarted { NvArray.blank with config := config, lock := lock }
    let record : Place := .written zeroRecord
    record.passing 98 = some zeroRecord ∧ Place.erased.passing 98 = none ∧
      ((read record .erased).lock ≠ .marked ∧ (read record .erased).working ≠ none) ∧
      ((read .erased .erased).lock ≠ .marked ∧ (read .erased .erased).working = none) ∧
      ((read record (marker (crc16 (List.replicate 96 0#8)))).lock = .marked ∧
        (read record (marker (crc16 (List.replicate 96 0#8)))).working ≠ none) ∧
      ((read .erased (marker 7#16)).lock = .marked ∧ (read .erased (marker 7#16)).working = none) := by decide

/-- Edges of MNS with the mains present and lost, and measurements one millisecond short and complete, in START
(R178). -/
theorem witness_mains_measurements :
    let s (m : Mains) (mns : Bool) (now : Nat) := ((State.reset.setPins { State.reset.pins with mns := mns }).setSupervisor
      { State.reset.supervisor with mains := m, measure := some 0#32 }).setMeter
        { State.reset.meter with timebase := BitVec.ofNat 32 now }
    ((s .present false 0).pins.mns = false ∧ (s .lost false 0).pins.mns = false ∧ (s .lost true 0).pins.mns = true) ∧
      (∀ p ∈ [(Mains.present, 19), (.present, 20), (.lost, 199), (.lost, 200)],
        (s p.1 true p.2).supervisor.powered = true ∧ (s p.1 true p.2).supervisor.op = .start ∧
          (s p.1 true p.2).supervisor.mains = p.1 ∧ (s p.1 true p.2).supervisor.measure = some 0#32 ∧
          ((s p.1 true p.2).meter.timebase - 0#32).toNat = p.2) := by decide

/-- Requests held and not begun, arriving whole in START and outside it, and a COMMISSION body of its length (R197,
R209); a request in assembly beyond its kind byte, and the unknown kinds next to the known (R195, R196). -/
theorem witness_requests :
    let held : Port := { Port.initial with state := .executing, held := some ⟨0x01#8, []⟩ }
    let more : Port := { Port.initial with state := .receiving, assembly := [0x5A#8, 1#8, 0#8, 9#8] }
    (requestOf .status = some ⟨0x01#8, []⟩ ∧ (ported held).port.held = some ⟨0x01#8, []⟩ ∧
      (ported held).port.begun = false ∧ (ported held).supervisor.op ≠ .start) ∧
    (run.port.state = .wait ∧ run.supervisor.op ≠ .start ∧ State.reset.port.state = .wait ∧
      State.reset.supervisor.op = .start) ∧
    requestOf (.commission (List.replicate 96 0#8)) = some ⟨0x06#8, List.replicate 96 0#8⟩ ∧
    (ported more).port.assembly = 0x5A#8 :: 1#8 :: [0#8, 9#8] ∧ run.port.state ≠ .receiving ∧
    (0#8 : Byte).toNat = 0 ∧ 11 < (12#8 : Byte).toNat := by decide

/-- A parity fault with the store free and with an operation in flight (R188). -/
theorem witness_failed_reckoning :
    run.store.op = none ∧ (storing (.programLock 0#16)).store.op ≠ none ∧
      (run.setReckoning { run.reckoning with lastParity := false }).reckoning.lastParity = false := by decide

/-- Notifications that instruct nothing, with the parity of the last reckoned interval failed and a completion due: a jump
out of 0 and one from UNALIGNED, a boundary that ends 1 and an UNALIGNED one (R89, R90, R112). -/
theorem witness_notifications_without_instructions :
    let upset (n : Notice) := (outdated n).setReckoning { (outdated n).reckoning with lastParity := false }
    (∀ n ∈ [Notice.jump 0 7202 .aligned 0, .jump 2 7202 .unaligned 0, .boundary 1 2 .aligned 0,
        .boundary 5001 5002 .unaligned 0],
      (upset n).supervisor.powered = true ∧ 0 ≤ (upset n).reckoning.epoch ∧ (upset n).reckoning.inbox = [n] ∧
        (upset n).reckoning.lastParity = false) ∧
      (after .cutShortInstruction (upset (.jump 0 7202 .aligned 0))).supervisor.op = .run := by decide

end Sys2Proof.Tests
end

/-! SUPPORT. The clock's verdict on an alignment input and what it does to the clock (R22, R23, R25). -/

namespace Sys2Proof.Machine

/-! ### The verdict by the lead against the guard (R22) -/

section
variable {a : Alignment} {g lead : Int}

theorem verdictOf_behind (h : lead < -g) : verdictOf a g lead = .behind := if_pos h

theorem verdictOf_unaligned_inStep (h : -g ≤ lead) : verdictOf .unaligned g lead = .inStep := if_neg (not_lt.mpr h)

theorem verdictOf_aligned_inStep (low : -g ≤ lead) (high : lead ≤ g) : verdictOf .aligned g lead = .inStep := by
  simp [verdictOf, not_lt.mpr low, not_lt.mpr high]

/-- A guard that is no negative number keeps FAR apart from BEHIND. -/
theorem verdictOf_aligned_far (hg : 0 ≤ g) (h : g < lead) : verdictOf .aligned g lead = .far := by
  have notBehind : ¬ lead < -g := by omega
  simp [verdictOf, notBehind, h]

end

/-! ### The sender's entry on BEHIND (R25, R69) -/

@[simp] theorem Entry.discord_state (e : Entry) : e.discord.state = .discordant := by
  unfold Entry.discord
  split
  · assumption
  · rfl

theorem Entry.judge_behind_state (e : Entry) (lead : Int) : (e.judge .behind lead).state = .discordant :=
  e.discord_state

/-! ### The guard of the working configuration (R160) -/

theorem State.guardSeconds_of_working {s : State} {w : Working} (h : s.store.working = some w) :
    s.guardSeconds = w.record.guardSeconds := by
  simp [State.guardSeconds, State.config, h]

/-! ### The advance (R23) -/

section
variable {s : State} {a : Nat}

theorem State.advance_of_lt (h : a < s.clock.r) :
    s.advance a = { s with clock := { s.clock with r := s.clock.r - a } } := if_pos h

theorem State.advance_of_le (h : s.clock.r ≤ a) :
    s.advance a = s.takeBoundary (s.clock.length + s.clock.r - a) := if_neg (not_lt.mpr h)

end

/-! ### An alignment input by its verdict (R22) -/

section
variable {s : State} {i : AlignmentInput}

theorem AlignmentInput.usable_iff {length : Nat} :
    i.usable length = true ↔ 1 ≤ i.ri ∧ i.ri ≤ length ∧ i.preJump = false := by
  simp [AlignmentInput.usable, and_assoc]

theorem State.alignmentInput_unusable (h : ¬ i.usable s.clock.length = true) : s.alignmentInput i = (.none, 0, s) :=
  if_neg h

theorem State.alignmentInput_behind (hu : i.usable s.clock.length = true)
    (h : i.lead s.clock.length < -(s.guardSeconds : Int)) :
    s.alignmentInput i = (.behind, i.lead s.clock.length, s) := by
  simp [State.alignmentInput, hu, verdictOf_behind h]

/-- An aligned clock judges a lead of -G up to G IN-STEP; it moves on a positive one alone (R23, R25). -/
theorem State.alignmentInput_inStep (hu : i.usable s.clock.length = true) (ha : s.clock.alignment = .aligned)
    (low : -(s.guardSeconds : Int) ≤ i.lead s.clock.length) (high : i.lead s.clock.length ≤ s.guardSeconds) :
    s.alignmentInput i = (.inStep, i.lead s.clock.length,
      if 0 < i.lead s.clock.length then s.advance (advanceSeconds (i.lead s.clock.length)) else s) := by
  simp [State.alignmentInput, State.inStepInput, hu, ha, verdictOf_aligned_inStep low high]

/-- The advance leaves r at 1 or more. -/
theorem State.alignmentInput_shortens (hu : i.usable s.clock.length = true) (ha : s.clock.alignment = .aligned)
    (positive : 0 < i.lead s.clock.length) (high : i.lead s.clock.length ≤ s.guardSeconds)
    (h : advanceSeconds (i.lead s.clock.length) < s.clock.r) :
    s.alignmentInput i = (.inStep, i.lead s.clock.length,
      { s with clock := { s.clock with r := s.clock.r - advanceSeconds (i.lead s.clock.length) } }) := by
  rw [alignmentInput_inStep hu ha (by omega) high, if_pos positive, advance_of_lt h]

/-- The advance takes the boundary at once. -/
theorem State.alignmentInput_crosses (hu : i.usable s.clock.length = true) (ha : s.clock.alignment = .aligned)
    (positive : 0 < i.lead s.clock.length) (high : i.lead s.clock.length ≤ s.guardSeconds)
    (h : s.clock.r ≤ advanceSeconds (i.lead s.clock.length)) :
    s.alignmentInput i = (.inStep, i.lead s.clock.length,
      s.takeBoundary (s.clock.length + s.clock.r - advanceSeconds (i.lead s.clock.length))) := by
  rw [alignmentInput_inStep hu ha (by omega) high, if_pos positive, advance_of_le h]

theorem State.alignmentInput_holds (hu : i.usable s.clock.length = true) (ha : s.clock.alignment = .aligned)
    (low : -(s.guardSeconds : Int) ≤ i.lead s.clock.length) (high : i.lead s.clock.length ≤ 0) :
    s.alignmentInput i = (.inStep, i.lead s.clock.length, s) := by
  rw [alignmentInput_inStep hu ha low (by omega), if_neg (not_lt.mpr high)]

end

/-- Settles O19: the verdict by the lead, then the three ranges of the lead on an aligned clock, each from the lemma
on its verdict, and the advance by whether it leaves r at 1 or more. -/
theorem verdictAndAdvance : Obligations.VerdictAndAdvance := by
  refine ⟨?verdict, Entry.judge_behind_state, ?aligned, ?unusable, fun _ _ => State.guardSeconds_of_working⟩
  case verdict =>
    exact fun g lead hg => ⟨verdictOf_aligned_inStep, verdictOf_aligned_far hg, fun h _ => verdictOf_behind h,
      verdictOf_unaligned_inStep⟩
  case aligned =>
    rintro s i _ _ ha hMark hLow hHigh rfl rfl
    have hu : i.usable s.clock.length = true := AlignmentInput.usable_iff.mpr ⟨hLow, hHigh, hMark⟩
    exact ⟨fun positive high => ⟨State.alignmentInput_shortens hu ha positive high,
        State.alignmentInput_crosses hu ha positive high⟩,
      State.alignmentInput_holds hu ha, State.alignmentInput_behind hu⟩
  case unusable =>
    intro s i h
    refine ⟨0, State.alignmentInput_unusable fun hu => ?_⟩
    obtain ⟨hLow, hHigh, hMark⟩ := AlignmentInput.usable_iff.mp hu
    rcases h with marked | zero | above
    · exact Bool.false_ne_true (hMark.symm.trans marked)
    · omega
    · exact absurd hHigh (not_le.mpr above)

end Sys2Proof.Machine

/-! SUPPORT. How the reckoning unit resolves the supply state of an interval and prices a settlement (R97, R101 to
R106). -/

namespace Sys2Proof.Machine

/-! ### Severity and the reports of the counted peers (R97) -/

/-- The report's code reads back as the state, so that two states of one severity are the same. -/
theorem supplyOfCode_code (x : SupplyState) : supplyOfCode x.code = some x := by cases x <;> rfl

theorem SupplyState.code_injective : Function.Injective SupplyState.code := fun a b h => by
  rw [← Option.some_inj, ← supplyOfCode_code a, h, supplyOfCode_code]

theorem SupplyState.code_le_island (x : SupplyState) : x.code ≤ SupplyState.island.code := by cases x <;> decide

theorem SupplyState.code_le_strained {x : SupplyState} (h : x ≠ .island) : x.code ≤ SupplyState.strained.code := by
  cases x with
  | island => exact absurd rfl h
  | strained => exact le_rfl
  | grid => exact Nat.zero_le _

theorem SupplyState.eq_grid {x : SupplyState} (hIsland : x ≠ .island) (hStrained : x ≠ .strained) : x = .grid := by
  cases x with
  | island => exact absurd rfl hIsland
  | strained => exact absurd rfl hStrained
  | grid => rfl

theorem SupplyState.severer_eq_or (a b : SupplyState) : a.severer b = a ∨ a.severer b = b :=
  (ite_eq_or_eq _ _ _).symm

theorem SupplyState.code_severer (a b : SupplyState) : (a.severer b).code = max a.code b.code := by
  unfold SupplyState.severer
  split <;> omega

theorem CountedPeer.reported_eq_some_iff {p : CountedPeer} {y : SupplyState} :
    p.reported = some y ↔ p.status = .direct ∧ p.supply = some y ∧ p.senderHeld = false := by
  rw [CountedPeer.reported, Option.ite_none_right_eq_some, Bool.and_eq_true, decide_eq_true_eq, Bool.not_eq_true',
    and_assoc, and_comm (b := p.supply = some y)]

section
variable {xs : List SupplyState} {x : SupplyState}

theorem mostSevere_cons (x : SupplyState) (xs : List SupplyState) :
    mostSevere (x :: xs) = some (xs.foldl SupplyState.severer x) := by
  induction xs generalizing x with
  | nil => rfl
  | cons y ys ih => exact ih (x.severer y)

theorem foldl_severer_mem (x : SupplyState) (xs : List SupplyState) : xs.foldl SupplyState.severer x ∈ x :: xs := by
  induction xs generalizing x with
  | nil => exact List.mem_singleton_self x
  | cons y ys ih =>
    rcases List.mem_cons.mp (ih (x.severer y)) with isStart | later
    · rw [List.foldl_cons, isStart]
      rcases x.severer_eq_or y with h | h <;> simp [h]
    · exact List.mem_cons_of_mem _ (List.mem_cons_of_mem _ later)

theorem code_le_foldl_severer (x : SupplyState) (xs : List SupplyState) :
    ∀ y ∈ x :: xs, y.code ≤ (xs.foldl SupplyState.severer x).code := by
  induction xs generalizing x with
  | nil => simp
  | cons z zs ih =>
    obtain ⟨start, later⟩ := List.forall_mem_cons.mp (ih (x.severer z))
    rw [SupplyState.code_severer] at start
    obtain ⟨hx, hz⟩ := max_le_iff.mp start
    exact List.forall_mem_cons.mpr ⟨hx, List.forall_mem_cons.mpr ⟨hz, later⟩⟩

/-- A report that no other exceeds is the most severe one. -/
theorem mostSevere_eq_some (hx : x ∈ xs) (top : ∀ y ∈ xs, y.code ≤ x.code) : mostSevere xs = some x := by
  cases xs with
  | nil => cases hx
  | cons z zs =>
    have same := le_antisymm (top _ (foldl_severer_mem z zs)) (code_le_foldl_severer z zs x hx)
    rw [mostSevere_cons, SupplyState.code_injective same]

end

/-! ### The resolved state (R97) -/

section
variable {k : Nat} {x y : SupplyState} {peers : List CountedPeer}

theorem resolveSupply_own : resolveSupply (some ⟨k, x, .own⟩) peers = (x, .own) := rfl

theorem resolveSupply_held_some (h : mostSevere (peers.filterMap CountedPeer.reported) = some y) :
    resolveSupply (some ⟨k, x, .held⟩) peers = (y, .peer) := by
  simp [resolveSupply, h]

theorem resolveSupply_held_none (h : peers.filterMap CountedPeer.reported = []) :
    resolveSupply (some ⟨k, x, .held⟩) peers = (x, .held) := by
  simp [resolveSupply, h, mostSevere]

end

/-- Settles O40: the reports are the members of the list the unit folds, whose most severe one is the one that no other
exceeds, so each clause is a bound on the reports' severity. -/
theorem supplyStateIsResolved : Obligations.SupplyStateIsResolved := by
  intro k x peers reports hReports
  have mem_iff : ∀ y, y ∈ peers.filterMap CountedPeer.reported ↔ reports y := fun y => by
    simp only [List.mem_filterMap, CountedPeer.reported_eq_some_iff, hReports]
  refine ⟨resolveSupply_own, fun island => ?island, fun noIsland strained => ?strained,
    fun noIsland noStrained grid => ?grid, fun noReport => ?none, rfl⟩
  case island =>
    exact resolveSupply_held_some (mostSevere_eq_some ((mem_iff _).mpr island) fun y _ => y.code_le_island)
  case strained =>
    refine resolveSupply_held_some (mostSevere_eq_some ((mem_iff _).mpr strained) fun y hy => ?_)
    exact SupplyState.code_le_strained fun h => noIsland (h ▸ (mem_iff y).mp hy)
  case grid =>
    refine resolveSupply_held_some (mostSevere_eq_some ((mem_iff _).mpr grid) fun y hy => ?_)
    have reported := (mem_iff y).mp hy
    have isGrid : y = .grid := SupplyState.eq_grid (fun h => noIsland (h ▸ reported)) fun h => noStrained (h ▸ reported)
    exact isGrid ▸ le_rfl
  case none =>
    exact resolveSupply_held_none (List.eq_nil_iff_forall_not_mem.mpr fun y hy => noReport y ((mem_iff y).mp hy))

/-! ### Own net and matched energy (R95, R102, R103) -/

theorem netOf_toNat (exportWh importWh : Nat) : (netOf exportWh importWh).toNat = exportWh - importWh := by
  unfold netOf
  omega

theorem neg_netOf_toNat (exportWh importWh : Nat) : (-netOf exportWh importWh).toNat = importWh - exportWh := by
  unfold netOf
  omega

theorem matchedOf_of_ne_pooled {mode : Mode} (h : mode ≠ .pooled) (matched own side : Nat) :
    matchedOf mode matched own side = 0 := if_neg h

/-- A household's share of what its side matches is no more than the household has. -/
theorem matchedOf_le (mode : Mode) {matched own side : Nat} (h : matched ≤ side) :
    matchedOf mode matched own side ≤ own := by
  unfold matchedOf
  split
  · exact Nat.div_le_of_le_mul (Nat.mul_le_mul_right own h)
  · exact Nat.zero_le own

/-! ### The peer credit (R105) -/

theorem peerCredit_le (m price levy : Nat) : peerCredit m price levy ≤ m * price :=
  Nat.div_le_of_le_mul (by rw [mul_comm]; exact Nat.mul_le_mul_right _ (Nat.sub_le 1000 levy))

@[simp] theorem peerCredit_no_levy (m price : Nat) : peerCredit m price 0 = m * price :=
  Nat.mul_div_cancel _ (by decide)

@[simp] theorem peerCredit_full_levy (m price : Nat) : peerCredit m price 1000 = 0 := by simp [peerCredit]

@[simp] theorem peerCredit_no_matched (price levy : Nat) : peerCredit 0 price levy = 0 := by simp [peerCredit]

/-! ### Price block and settlement record (R101 to R108) -/

/-- The prices a settlement of a band reads, with the backup price of a resolved state. -/
def State.prices (s : State) (band : Nat) (x : SupplyState) : Prices :=
  ⟨s.price band 0, s.price band 1, s.price band (2 + x.code), s.levy⟩

section
variable {p : Prices} {mode : Mode} {exportWh importWh supply demand : Nat} {b : PriceBlock}

/-- A price block is a SELLER's or a BUYER's, with no more matched than the own net's magnitude, and none outside
POOLED. -/
theorem priceBlock_eq_some (h : priceBlock p mode (netOf exportWh importWh) supply demand = some b) :
    ∃ m, (mode ≠ .pooled → m = 0) ∧
      ((roleOf (netOf exportWh importWh) = .seller ∧ m ≤ exportWh - importWh ∧
          b = sellerBlock p m (exportWh - importWh - m)) ∨
        (roleOf (netOf exportWh importWh) = .buyer ∧ m ≤ importWh - exportWh ∧
          b = buyerBlock p m (importWh - exportWh - m))) := by
  unfold priceBlock at h
  rw [netOf_toNat, neg_netOf_toNat] at h
  split at h
  case h_1 role =>
    exact ⟨_, fun hm => matchedOf_of_ne_pooled hm .., .inl ⟨role, matchedOf_le mode (min_le_left ..), by
      simpa using h.symm⟩⟩
  case h_2 role =>
    exact ⟨_, fun hm => matchedOf_of_ne_pooled hm .., .inr ⟨role, matchedOf_le mode (min_le_right ..), by
      simpa using h.symm⟩⟩
  case h_3 => cases h

end

section
variable {s : State} {j : Nat} {kind : ReckoningKind} {own : OwnRecord} {answer : Option SupplyRecord}
  {list : ParticipantList} {x : SettlementRecord} {b : PriceBlock}

/-- What a priced settlement record can hold: the block of its role, under the prices of its band and state. -/
theorem State.settlement_price_eq_some (hx : x = s.settlement j kind own answer list) (hb : x.price = some b) :
    ∃ m, (x.mode ≠ .pooled → m = 0) ∧
      ((x.role = .seller ∧ m ≤ own.exportWh - own.importWh ∧
          b = sellerBlock (s.prices x.band x.supplyState) m (own.exportWh - own.importWh - m)) ∨
        (x.role = .buyer ∧ m ≤ own.importWh - own.exportWh ∧
          b = buyerBlock (s.prices x.band x.supplyState) m (own.importWh - own.exportWh - m))) := by
  subst hx
  exact priceBlock_eq_some hb

end

/-- The money for an energy, whichever way it splits between two prices. -/
theorem split_cost_le {m net price second top : Nat} (hm : m ≤ net) (hp : price ≤ top) (hs : second ≤ top) :
    m * price + (net - m) * second ≤ net * top := by
  calc m * price + (net - m) * second ≤ m * top + (net - m) * top :=
        Nat.add_le_add (Nat.mul_le_mul_left m hp) (Nat.mul_le_mul_left _ hs)
    _ = net * top := by rw [← Nat.add_mul, Nat.add_sub_cancel' hm]

/-- A household's money at 65,535 Wh and prices of 65,535 at most. -/
theorem split_cost_in_range {m net price second : Nat} (hm : m ≤ net) (hNet : net ≤ 65535) (hp : price ≤ 65535)
    (hs : second ≤ 65535) : m * price + (net - m) * second ≤ 4294836225 :=
  (split_cost_le hm hp hs).trans (Nat.mul_le_mul_right 65535 hNet)

/-- A posted CREDIT adds its levy to the levy total (R135, R138). -/
theorem State.post_levy_of_credit {x : SettlementRecord} {b : PriceBlock} (s : State) (hb : x.price = some b)
    (hd : b.direction = .credit) :
    (s.post x).account.ledger.figures.levy = min moneyLimit (s.account.ledger.figures.levy + b.levy) := by
  simp [State.post_frame, PeriodFigures.posted, PeriodFigures.counted, PeriodFigures.priced, PeriodFigures.credit, hb,
    hd, satAdd]

/-- Settles O39: a priced record holds a SELLER's or a BUYER's block; the amounts are that block's fields, the corners
those of the peer credit, and the range that of an energy split between two prices. -/
theorem amountsOfASettlement : Obligations.AmountsOfASettlement := by
  rintro s j kind own answer list x b credit peer second hx hb - rfl rfl
  obtain ⟨m, noMatched, ⟨role, hm, rfl⟩ | ⟨role, hm, rfl⟩⟩ := State.settlement_price_eq_some hx hb
  case inl =>
    refine ⟨?seller, fun h => absurd (role.symm.trans h) (by decide), by simp [role], fun hOut _ hPrices => ?range⟩
    case seller =>
      rintro - rfl
      refine ⟨rfl, rfl, rfl, rfl, rfl, peerCredit_le .., s.post_levy_of_credit hb rfl, fun free => ?noLevy,
        fun full => ?fullLevy, fun h => ?unmatched⟩
      case noLevy => simp [sellerBlock, State.prices, free]
      case fullLevy => simp [sellerBlock, State.prices, full]
      case unmatched => simp [sellerBlock, State.prices, noMatched h]
    case range =>
      exact (Nat.add_le_add_right (peerCredit_le ..) _).trans
        (split_cost_in_range hm ((Nat.sub_le ..).trans hOut) (hPrices _) (hPrices _))
  case inr =>
    refine ⟨fun h => absurd (role.symm.trans h) (by decide), ?buyer, by simp [role], fun _ hIn hPrices => ?range⟩
    case buyer =>
      rintro - rfl
      refine ⟨rfl, rfl, rfl, rfl, rfl, fun h => ?unmatched⟩
      simp [buyerBlock, State.prices, noMatched h]
    case range =>
      exact split_cost_in_range hm ((Nat.sub_le ..).trans hIn) (hPrices _) (hPrices _)

end Sys2Proof.Machine

/-! SUPPORT. What the port does with a request it holds, and what CLEAR-CAUSE leaves (R190, R197, R198, R207). -/

namespace Sys2Proof.Machine

/-! ### The port's execution of a held request (R197, R198) -/

section
variable {s : State} {kind : RequestKind} {body : List Byte}

/-- Outside START a request that is held and not begun is executed. -/
theorem State.serve_held (hState : s.port.state = .executing) (hHeld : s.port.held = some ⟨kind.byte, body⟩)
    (hBegun : s.port.begun = false) (hOp : s.supervisor.op ≠ .start) (f : State → State) :
    s.serve kind body f = f s := by
  simp [State.serve, hState, hHeld, hBegun, hOp]

/-- A response to a request that waited for no other block. -/
theorem State.respond_of_not_begun (hBegun : s.port.begun = false) (k : Byte) (code : ResponseCode)
    (contents : List Byte) :
    s.respond k code contents = { s with port := { s.port with
      state := .responding, assembly := [], gap := none
      response := some (envelope k (code.byte :: contents)) } } := by
  simp [State.respond, State.setPort, hBegun]

end

/-! ### CLEAR-CAUSE (R190, R207) -/

theorem exec_clearCause (s : State) :
    exec .clearCause s = s.whenPowered (State.serve .clearCause [] State.runClearCause) := rfl

/-- The supervisor's clearing and the port's response, in one event. -/
theorem State.runClearCause_of_not_begun {s : State} (hBegun : s.port.begun = false) :
    s.runClearCause = { s with
      supervisor := { s.supervisor with
        cause := { last := none, requested := 0, parity := 0, duplicateId := false } }
      port := { s.port with
        state := .responding, assembly := [], gap := none, response := some (envelope 0x0B#8 [0#8]) } } :=
  State.respond_of_not_begun (s := s.setSupervisor { s.supervisor with cause := ⟨none, 0, 0, false⟩ }) hBegun ..

/-- Settles O60: on a powered node the port executes the request it holds, and the execution is the supervisor's
clearing with the response; neither step reads the commissioning state or a pending reset. -/
theorem clearCauseClearsTheRecord : Obligations.ClearCauseClearsTheRecord := by
  intro s hPowered hOp hState hHeld hBegun
  rw [exec_clearCause, whenPowered_on hPowered, State.serve_held (kind := .clearCause) hState hHeld hBegun hOp,
    State.runClearCause_of_not_begun hBegun]

end Sys2Proof.Machine

/-! SUPPORT. The queue of waiting commands through every operation: no command reads or changes it, the step alone takes
from it (00_scope.md 5.6). -/

namespace Sys2Proof.Machine

-- One proof after the other: in parallel each waits on a thread of its own for the kernel to check the text above.
set_option Elab.async false

open Sys2Proof.Safety

/-! ### The shared operations leave the queue as it is -/

section
variable (s : State)

@[simp] theorem evaluateLim_pending : s.evaluateLim.pending = s.pending := rfl

@[simp] theorem respond_pending (k : Byte) (c : ResponseCode) (xs : List Byte) :
    (s.respond k c xs).pending = s.pending := rfl

@[simp] theorem answer_pending (k : RequestKind) (c : ResponseCode) (xs : List Byte) :
    (s.answer k c xs).pending = s.pending := by
  simp [State.answer_eq]

@[simp] theorem nodeReset_pending (kind : ResetKind) : (s.nodeReset kind).pending = s.pending := rfl

@[simp] theorem powerOff_pending : s.powerOff.pending = s.pending := rfl

@[simp] theorem settleReset_pending : s.settleReset.pending = s.pending := by
  unfold State.settleReset
  repeat' split
  all_goals rfl

@[simp] theorem parityFault_pending : s.parityFault.pending = s.pending := by simp [State.parityFault]

@[simp] theorem guarded_pending (ok : Bool) (f : State → State) :
    (s.guarded ok f).pending = if ok then (f s).pending else s.pending := by
  unfold State.guarded
  split <;> simp

@[simp] theorem draw_pending : s.draw.2.pending = s.pending := rfl

@[simp] theorem spentInterval_pending (n : Nat) : (s.spentInterval n).pending = s.pending := by
  unfold State.spentInterval
  split <;> simp

@[simp] theorem post_pending (x : SettlementRecord) : (s.post x).pending = s.pending := rfl

@[simp] theorem takeResult_pending (x : HeldResult) : (s.takeResult x).pending = s.pending := by
  unfold State.takeResult
  split <;> simp

/-! ### Reckoning -/

/-- The state in which a guarded operation ended. -/
def Guarded.state : Guarded → State
  | .done s => s
  | .failed s => s

@[simp] theorem Guarded.state_done : (Guarded.done s).state = s := rfl
@[simp] theorem Guarded.state_failed : (Guarded.failed s).state = s := rfl

@[simp] theorem Guarded.run_pending (g : Guarded) : g.run.pending = g.state.pending := by
  cases g <;> simp [Guarded.run]

theorem Guarded.andThen_pending (g : Guarded) {f : State → Guarded} (hf : ∀ t, (f t).state.pending = t.pending) :
    (g.andThen f).state.pending = g.state.pending := by
  cases g <;> simp [Guarded.andThen, hf]

@[simp] theorem settle_pending (j kind own answer list) :
    (s.settle j kind own answer list).state.pending = s.pending := by
  unfold State.settle
  dsimp only
  split <;> simp

@[simp] theorem reckon_pending_commands (j kind own answer list) :
    (s.reckon j kind own answer list).state.pending = s.pending := by
  unfold State.reckon
  split
  · simp
  split
  · simp
  cases own <;> simp

@[simp] theorem makeReady_pending (fuel : Nat) : ∀ s : State, (s.makeReady fuel).state.pending = s.pending := by
  induction fuel with
  | zero => exact fun s => rfl
  | succ n ih =>
    intro s
    unfold State.makeReady
    split
    · simp [Guarded.andThen_pending _ ih]
    · rfl

@[simp] theorem takeInput_pending (order j i) : (s.takeInput order j i).state.pending = s.pending := by
  unfold State.takeInput State.unmatched
  repeat' split
  all_goals simp

@[simp] theorem takeInputs_pending (order xs) : ∀ s : State, (s.takeInputs order xs).state.pending = s.pending := by
  induction xs with
  | nil => exact fun s => rfl
  | cons x xs ih =>
    intro s
    unfold State.takeInputs
    simp [Guarded.andThen_pending _ ih]

@[simp] theorem takeInstructed_pending (order xs) : (s.takeInstructed order xs).state.pending = s.pending := by
  unfold State.takeInstructed
  repeat' split
  all_goals simp

@[simp] theorem instruct_pending (k : Nat) : (s.instruct k).state.pending = s.pending := by simp [State.instruct]

/-! ### The checkpoint store -/

@[simp] theorem buildAndProgram_pending : s.buildAndProgram.pending = s.pending := by
  unfold State.buildAndProgram
  split <;> simp

@[simp] theorem beginCheckpoint_pending : s.beginCheckpoint.pending = s.pending := by
  unfold State.beginCheckpoint
  split <;> simp

@[simp] theorem request_pending : s.request.pending = s.pending := by
  unfold State.request
  repeat' split
  all_goals simp

@[simp] theorem finalReport_pending (o : FinalOutcome) : (s.finalReport o).pending = s.pending := by
  unfold State.finalReport
  dsimp only
  split <;> simp

@[simp] theorem finalRequest_pending : s.finalRequest.pending = s.pending := by
  unfold State.finalRequest
  repeat' split
  all_goals simp

@[simp] theorem enterFailed_pending : s.enterFailed.pending = s.pending := by
  unfold State.enterFailed
  dsimp only
  split <;> simp

@[simp] theorem afterOperation_pending : s.afterOperation.pending = s.pending := by
  unfold State.afterOperation
  dsimp only
  split <;> simp

@[simp] theorem configErased_pending (body attempt verified) :
    (s.configErased body attempt verified).pending = s.pending := by
  unfold State.configErased
  dsimp only
  repeat' split
  all_goals simp

@[simp] theorem sectorErased_pending (k attempt record verified) :
    (s.sectorErased k attempt record verified).pending = s.pending := by
  unfold State.sectorErased
  dsimp only
  repeat' split
  all_goals simp

@[simp] theorem slotWritten_pending (slot bytes final) : (s.slotWritten slot bytes final).pending = s.pending := by
  unfold State.slotWritten
  dsimp only
  repeat' split
  all_goals simp

@[simp] theorem slotFailed_pending (slot bytes attempt final) :
    (s.slotFailed slot bytes attempt final).pending = s.pending := by
  unfold State.slotFailed
  dsimp only
  repeat' split
  all_goals simp

@[simp] theorem configured_pending (body : List Byte) : (s.configured body).pending = s.pending := rfl

@[simp] theorem startRead_pending : s.startRead.pending = s.pending := rfl

@[simp] theorem endStart_pending : s.endStart.pending = s.pending := by
  unfold State.endStart
  dsimp only
  split <;> simp

/-! ### The clock and the peer table -/

@[simp] theorem takeBoundary_pending (r : Nat) : (s.takeBoundary r).pending = s.pending := by
  simp [State.takeBoundary]

@[simp] theorem jump_pending (c r : Nat) : (s.jump c r).pending = s.pending := by simp [State.jump]

@[simp] theorem takeExpiry_pending : s.takeExpiry.pending = s.pending := by
  unfold State.takeExpiry
  dsimp only
  split <;> simp

@[simp] theorem align_pending : s.align.pending = s.pending := rfl

@[simp] theorem farInput_pending (i : AlignmentInput) : (s.farInput i).pending = s.pending := by
  unfold State.farInput State.jumpOrClear
  dsimp only
  repeat' split
  all_goals simp

@[simp] theorem inStepInput_pending (i : AlignmentInput) (lead : Int) : (s.inStepInput i lead).pending = s.pending := by
  unfold State.inStepInput State.firstInput State.advance
  repeat' split
  all_goals simp

@[simp] theorem alignmentInput_pending (i : AlignmentInput) : (s.alignmentInput i).2.2.pending = s.pending := by
  unfold State.alignmentInput
  split
  · dsimp only
    split <;> simp
  · rfl

@[simp] theorem takePeerFrame_pending (x : QueueEntry) (f : Frame) : (s.takePeerFrame x f).pending = s.pending := by
  unfold State.takePeerFrame
  dsimp only
  split <;> simp

@[simp] theorem takeFrame_pending (x : QueueEntry) : (s.takeFrame x).pending = s.pending := by
  unfold State.takeFrame
  dsimp only
  split <;> simp

/-! ### The link, the power supervisor and the collector port -/

@[simp] theorem buildSchedule_pending (k newC : Nat) : (s.buildSchedule k newC).pending = s.pending := by
  unfold State.buildSchedule
  repeat' split
  all_goals simp

@[simp] theorem enterSending_pending (copy : CopyMark) : (s.enterSending copy).pending = s.pending := by
  unfold State.enterSending
  repeat' split
  all_goals simp

@[simp] theorem mainsChange_pending : s.mainsChange.pending = s.pending := by
  unfold State.mainsChange
  split <;> dsimp only <;> split <;> simp

@[simp] theorem malformed_pending (xs : List Byte) : (s.malformed xs).pending = s.pending := rfl

@[simp] theorem portAssemble_pending (b : Byte) : (s.portAssemble b).pending = s.pending := by
  unfold State.portAssemble State.completeRequest
  dsimp only
  repeat' split
  all_goals simp

@[simp] theorem portDiscard_pending : s.portDiscard.pending = s.pending := rfl

@[simp] theorem abortRequest_pending : s.abortRequest.pending = s.pending := by simp [State.abortRequest]

@[simp] theorem awaitBlock_pending : s.awaitBlock.pending = s.pending := rfl

@[simp] theorem closeAccount_pending : s.closeAccount.pending = s.pending := by simp [State.closeAccount]

@[simp] theorem runStatus_pending : s.runStatus.pending = s.pending := by
  unfold State.runStatus
  split <;> simp

@[simp] theorem runAccount_pending : s.runAccount.pending = s.pending := by
  unfold State.runAccount
  split <;> simp

@[simp] theorem runPeek_pending (n : Byte) : (s.runPeek n).pending = s.pending := by
  unfold State.runPeek
  split <;> rfl

@[simp] theorem runTake_pending (n : Byte) : (s.runTake n).pending = s.pending := by
  unfold State.runTake
  split <;> rfl

@[simp] theorem runPeers_pending (i : Byte) : (s.runPeers i).pending = s.pending := by
  unfold State.runPeers
  split <;> rfl

@[simp] theorem runCommission_pending (body : List Byte) : (s.runCommission body).pending = s.pending := by
  unfold State.runCommission
  repeat' split
  all_goals rfl

@[simp] theorem runLock_pending : s.runLock.pending = s.pending := by
  unfold State.runLock
  repeat' split
  all_goals rfl

@[simp] theorem runClosePeriod_pending : s.runClosePeriod.pending = s.pending := by
  unfold State.runClosePeriod
  dsimp only
  repeat' split
  all_goals simp

@[simp] theorem runRestartBlock_pending (selector : Byte) : (s.runRestartBlock selector).pending = s.pending := by
  unfold State.runRestartBlock
  split <;> rfl

@[simp] theorem runRestartNode_pending : s.runRestartNode.pending = s.pending := by
  unfold State.runRestartNode
  dsimp only
  split <;> simp

@[simp] theorem runClearCause_pending : s.runClearCause.pending = s.pending := by simp [State.runClearCause]

@[simp] theorem execute_pending (x : Request) : (s.execute x).pending = s.pending := by
  unfold State.execute
  dsimp only
  split <;> simp

@[simp] theorem serve_pending (kind : RequestKind) (body : List Byte) {f : State → State}
    (hf : ∀ t, (f t).pending = t.pending) : (s.serve kind body f).pending = s.pending := by
  unfold State.serve
  dsimp only
  repeat' split
  all_goals simp [hf]

end

/-- Settles O3: what a command answers is the state its effect leaves, an effect of shared operations that each keep the
queue, or in power-off the state it found. -/
theorem everyCommandAnswersAndKeepsTheQueue : Obligations.EveryCommandAnswersAndKeepsTheQueue := by
  intro i s
  cases i
  case boundarySnapshot =>
    refine ⟨_, rfl, ?_⟩
    split
    · dsimp only
      split
      · rfl
      · rfl
      · rw [guarded_pending]
        repeat' split
        all_goals simp
    · rfl
  all_goals
    refine ⟨_, rfl, ?_⟩
    repeat' (dsimp -failIfUnchanged only; split)
    all_goals first | rfl | simp

end Sys2Proof.Machine

/-! SUPPORT. Every command keeps the bounds of Safety.Bounded: the parts of the link, the table, the outputs and the
store first, then the shared operations that Laws/Bounded.lean leaves, then the commands. -/

namespace Sys2Proof.Safety

-- One proof after the other: in parallel each waits on a thread of its own for the kernel to check the text above.
set_option Elab.async false

open Sys2Proof.Machine

/-! ### A block replaced that keeps its bounded item -/

section
variable {s : State} (h : Bounded s)
include h

theorem Bounded.store (v : Store) (hv : v.pointer = s.store.pointer := by rfl) : Bounded (s.setStore v) :=
  h.setStore v (hv ▸ h.pointer)

theorem Bounded.meter (v : Meter) (hv : v.ring = s.meter.ring := by rfl) : Bounded (s.setMeter v) :=
  h.setMeter v (hv ▸ h.ownRing)

theorem Bounded.peers (v : Peers) (hv : v.entries = s.peers.entries := by rfl) : Bounded (s.setPeers v) :=
  h.setPeers v (hv ▸ h.table)

theorem Bounded.supply (v : Supply) (hv : v.ring = s.supply.ring := by rfl) : Bounded (s.setSupply v) :=
  h.setSupply v (hv ▸ h.supplyRing)

end

/-! ### The link (R45, R49 to R57) -/

section
variable {k : Link} (h : LinkBounded k)
include h

/-- A change of counters, timers, assembly or notifications alone keeps the link's bounds. -/
theorem LinkBounded.congr {k' : Link} (queue : k'.queue = k.queue := by rfl) (req : k'.req = k.req := by rfl)
    (tx : k'.tx = k.tx := by rfl) (schedule : k'.schedule = k.schedule := by rfl) : LinkBounded k' :=
  ⟨queue ▸ h.receive, by rw [req, tx, h.req], by rw [tx, schedule]; exact h.quiet⟩

theorem LinkBounded.counters (x : LinkCounters) : LinkBounded { k with counters := x } := h.congr

theorem LinkBounded.idle : LinkBounded k.idle := ⟨h.receive, rfl, by simp [Link.idle]⟩

theorem LinkBounded.missed : LinkBounded k.missed := h.counters _

theorem LinkBounded.hunt : LinkBounded k.hunt := h.congr

theorem LinkBounded.abandon : LinkBounded k.abandon := by
  unfold Link.abandon
  split
  · exact h.idle.missed
  · exact h

theorem LinkBounded.abandonWaiting : LinkBounded k.abandonWaiting := by
  unfold Link.abandonWaiting
  split
  · exact h.idle.missed
  · exact h

theorem LinkBounded.collide : LinkBounded k.collide := by
  unfold Link.collide
  split
  · exact h.idle.counters _
  · exact h

theorem LinkBounded.sent : LinkBounded k.sent := by
  unfold Link.sent
  split
  · exact h.idle.counters _
  · exact h

theorem LinkBounded.checkFailure : LinkBounded k.checkFailure := (h.hunt.counters _).collide

theorem LinkBounded.enqueue (content : List Byte) (stamp : Stamp) : LinkBounded (k.enqueue content stamp) := by
  unfold Link.enqueue
  split
  case isTrue room =>
    refine ⟨?_, h.req, h.quiet⟩
    simp only [List.length_append, List.length_singleton]
    exact room
  case isFalse => exact h.congr

theorem LinkBounded.receive_byte (b : Byte) (stamp : Stamp) : LinkBounded (k.receive b stamp) := by
  unfold Link.receive Link.complete
  dsimp only
  repeat' split
  · exact h.checkFailure
  · exact h.hunt.sent
  · exact h.hunt.collide.enqueue ..
  · exact h.checkFailure
  · exact h.congr

theorem LinkBounded.settleSchedule : LinkBounded k.settleSchedule :=
  ⟨h.abandonWaiting.receive, h.abandonWaiting.req, fun _ => rfl⟩

theorem LinkBounded.renumber (replaced : Stamp → Bool) : LinkBounded (k.renumber replaced) :=
  ⟨by simpa [Link.renumber] using h.receive, h.settleSchedule.req, fun _ => rfl⟩

theorem LinkBounded.lineRestart : LinkBounded k.lineRestart := by
  unfold Link.lineRestart
  dsimp only
  have empty (l : Link) (hl : l.req = false) (tx : l.tx = .idle) (hq : l.queue = []) : LinkBounded l :=
    ⟨by simp [hq], by simp [hl, tx], by simp [tx]⟩
  split
  case isTrue suspended =>
    split <;> exact ⟨Nat.zero_le 8, rfl, fun _ => h.quiet suspended⟩
  case isFalse =>
    split <;> exact empty _ rfl rfl rfl

end

/-! ### The peer table (R60, R67) -/

theorem insertEntry_length (x : Entry) (es : List Entry) : (insertEntry x es).length = es.length + 1 := by
  induction es with
  | nil => rfl
  | cons e es ih =>
    unfold insertEntry
    split <;> simp [ih]

/-- An entry that a filter drops makes room. -/
theorem filter_length_lt {es : List Entry} {p : Entry → Bool} {e : Entry} (he : e ∈ es) (hp : p e = false) :
    (es.filter p).length < es.length :=
  List.length_filter_lt_length_iff_exists.mpr ⟨e, he, by simp [hp]⟩

theorem put_entries_length (p : Peers) (x : Entry) :
    (p.put x).entries.length = (p.entries.filter fun e => e.id != x.id).length + 1 := insertEntry_length ..

theorem purge_entries_length_le (p : Peers) (reads : Entry → Bool) :
    (p.purge reads).entries.length ≤ p.entries.length := List.length_filter_le ..

/-- The table has room for an entry of this id: it is not full, or one of that id leaves. -/
def RoomFor (id : Nat) (p : Peers) : Prop := (p.entries.filter fun e => e.id != id).length < 48

theorem RoomFor.of_lt {id : Nat} {p : Peers} (h : p.entries.length < 48) : RoomFor id p :=
  (List.length_filter_le ..).trans_lt h

theorem RoomFor.of_mem {id : Nat} {p : Peers} {e : Entry} (h : p.entries.length ≤ 48) (he : e ∈ p.entries)
    (hid : e.id = id) : RoomFor id p :=
  (filter_length_lt he (by simp [hid])).trans_le h

theorem RoomFor.put_le {p : Peers} {x : Entry} (h : RoomFor x.id p) : (p.put x).entries.length ≤ 48 := by
  rw [put_entries_length]
  exact h

theorem foldl_betterVictim_mem (es : List Entry) : ∀ (a : Option Entry) (v : Entry),
    es.foldl betterVictim a = some v → v ∈ es ∨ a = some v := by
  induction es with
  | nil => exact fun a v h => .inr h
  | cons e es ih =>
    intro a v h
    rcases ih _ v h with later | here
    · exact .inl (List.mem_cons_of_mem _ later)
    · cases a with
      | none => exact .inl (by simp_all [betterVictim])
      | some x =>
        unfold betterVictim at here
        dsimp only at here
        split at here
        · exact .inl (by simp_all)
        · exact .inr here

/-- A place made in a table that holds no more than it may leaves it not full (R68). -/
theorem makePlace_length_lt {p q : Peers} (h : p.entries.length ≤ 48) (hq : p.makePlace = some q) :
    q.entries.length < 48 := by
  unfold Peers.makePlace at hq
  dsimp only at hq
  split at hq
  case isTrue room => cases hq; exact room
  case isFalse =>
    obtain ⟨v, hv, rfl⟩ := Option.map_eq_some_iff.mp hq
    have inTable : v ∈ (p.purge fun e => e.state == p.candidateState).entries :=
      (foldl_betterVictim_mem _ none v hv).elim List.mem_of_mem_filter nofun
    exact (filter_length_lt inTable (by simp)).trans_le ((purge_entries_length_le ..).trans h)

/-- The lookup's table is within its capacity, and has room for the entry that the lookup answers. -/
theorem lookup_bounds {p : Peers} (h : p.entries.length ≤ 48) (id : Nat) :
    (p.lookup id).2.entries.length ≤ 48 ∧
      ∀ e, (p.lookup id).1 = some e → e.id = id ∧ RoomFor id (p.lookup id).2 := by
  have purged := (purge_entries_length_le p fun e => e.id == id).trans h
  unfold Peers.lookup
  dsimp only
  split
  case h_1 e found =>
    refine ⟨purged, ?_⟩
    rintro _ ⟨⟩
    have hid : e.id = id := by simpa using List.find?_some found
    exact ⟨hid, .of_mem purged (List.mem_of_find?_eq_some found) hid⟩
  case h_2 =>
    split
    case isTrue room =>
      refine ⟨purged, ?_⟩
      rintro _ ⟨⟩
      exact ⟨rfl, .of_lt room⟩
    case isFalse =>
      split
      case h_1 q made =>
        have room := makePlace_length_lt purged made
        refine ⟨room.le, ?_⟩
        rintro _ ⟨⟩
        exact ⟨rfl, .of_lt room⟩
      case h_2 => exact ⟨purged, nofun⟩

/-! A frame's figures keep the sender's entry in its place. -/

@[simp] theorem hear_id (e : Entry) : e.hear.id = e.id := rfl

@[simp] theorem discord_id (e : Entry) : e.discord.id = e.id := by
  unfold Entry.discord
  split <;> rfl

@[simp] theorem judge_id (e : Entry) (v : Verdict) (lead : Int) : (e.judge v lead).id = e.id := by
  cases v <;> simp [Entry.judge]

@[simp] theorem restartFlag_id (e : Entry) (r : Bool) : (e.restartFlag r).id = e.id := by
  unfold Entry.restartFlag
  split <;> rfl

@[simp] theorem anchorFrom_id (e : Entry) (f : Frame) : (e.anchorFrom f).id = e.id := by
  unfold Entry.anchorFrom
  dsimp only
  split <;> split <;> rfl

@[simp] theorem file_id (e : Entry) (f : Frame) (c : Nat) : (e.file f c).1.id = e.id := by
  unfold Entry.file
  dsimp only
  split <;> simp [Entry.putSlot, Entry.fill]

theorem RoomFor.figures_le {p : Peers} {e : Entry} (h : RoomFor e.id p) (f : Frame) :
    (p.figures e f).entries.length ≤ 48 := by
  unfold Peers.figures
  split
  · exact h.put_le
  · split
    · exact h.put_le
    · exact RoomFor.put_le (x := e.anchorFrom f) (by simpa using h)
    · exact RoomFor.put_le (x := (e.file f p.tableInterval).1) (by simpa using h)

theorem RoomFor.apply_le {p : Peers} {e : Entry} (h : RoomFor e.id p) (f : Frame) (v : Verdict) (lead : Int) :
    (p.apply e f v lead).entries.length ≤ 48 := by
  unfold Peers.apply
  dsimp only
  refine RoomFor.figures_le ?_ f
  split <;> simpa [RoomFor] using h

/-! An alignment input leaves the entries as they are. -/

section
variable (s : State)

@[simp] theorem notify_peers_entries (n : Notice) (q : StoreNotice) :
    (s.notify n q).peers.entries = s.peers.entries := rfl

@[simp] theorem spentInterval_peers (n : Nat) : (s.spentInterval n).peers = s.peers := by
  unfold State.spentInterval
  split <;> rfl

@[simp] theorem jump_peers_entries (c r : Nat) : (s.jump c r).peers.entries = s.peers.entries := by simp [State.jump]

@[simp] theorem takeBoundary_peers_entries (r : Nat) : (s.takeBoundary r).peers.entries = s.peers.entries := by
  simp [State.takeBoundary]

theorem alignmentInput_peers_entries (i : AlignmentInput) :
    (s.alignmentInput i).2.2.peers.entries = s.peers.entries := by
  unfold State.alignmentInput State.inStepInput State.advance State.firstInput State.align State.farInput
    State.jumpOrClear
  dsimp only
  repeat' split
  all_goals simp

end

theorem Bounded.takePeerFrame {s : State} (h : Bounded s) (x : QueueEntry) (f : Frame) :
    Bounded (s.takePeerFrame x f) := by
  obtain ⟨inTable, room⟩ := lookup_bounds h.table f.sender
  have judged := (h.setPeers _ inTable).alignmentInput (inputOf f x (s.marked x))
  unfold State.takePeerFrame
  dsimp only
  split
  case h_1 e found =>
    obtain ⟨hid, hroom⟩ := room e found
    refine judged.setPeers _ (RoomFor.apply_le ?_ ..)
    rw [RoomFor, alignmentInput_peers_entries, hid]
    exact hroom
  case h_2 => exact judged

theorem Bounded.takeFrame {s : State} (h : Bounded s) (x : QueueEntry) : Bounded (s.takeFrame x) := by
  unfold State.takeFrame
  dsimp only
  split
  · exact h.peers _
  · exact (h.peers _).setSupervisor _
  · exact h.takePeerFrame ..


/-! ### The link's operations on the whole state (R47, R51) -/

theorem Bounded.buildSchedule {s : State} (h : Bounded s) (k newC : Nat) : Bounded (s.buildSchedule k newC) := by
  unfold State.buildSchedule
  repeat' split
  case h_1.isTrue x g _ _ may =>
    refine h.guarded _ _ ((h.setLink _ ?_).meter _)
    exact ⟨h.receive, h.req, fun suspended => absurd suspended may.2⟩
  all_goals exact h

/-- A copy that waits, REQ raised, enters SENDING, or is missed. -/
theorem Bounded.enterSending {s : State} (h : Bounded s) (req : s.link.req = true) (mark : CopyMark) :
    Bounded (s.enterSending mark) := by
  have missed := h.setLink _ h.link.idle.missed
  unfold State.enterSending
  repeat' split
  · exact h.setLink _ ⟨h.receive, req, nofun⟩
  · exact missed.parityFault
  · exact missed
  · exact missed

/-! ### The checkpoint store (R167 to R175) -/

theorem nextSlot_lt (n : Nat) : nextSlot n < 32 := Nat.mod_lt _ (by decide)

theorem walk_lt (a : NvArray) (fuel : Nat) : ∀ n, n < 32 → a.walk fuel n < 32 := by
  induction fuel with
  | zero => exact fun n hn => hn
  | succ fuel ih =>
    intro n hn
    unfold NvArray.walk
    split
    · exact hn
    · exact ih _ (nextSlot_lt n)

theorem walkStart_lt (newest greatest : Option SlotRef) : walkStart newest greatest < 32 := by
  unfold walkStart
  split
  · exact nextSlot_lt _
  · exact nextSlot_lt _
  · decide

section
variable {s : State} (h : Bounded s)
include h

theorem Bounded.configErased (body attempt verified) : Bounded (s.configErased body attempt verified) := by
  have drawn (v : Store) (hv : v.pointer = s.store.pointer := by rfl) : Bounded (s.draw.2.draw.2.setStore v) :=
    ((h.setFree _).setFree _).store v hv
  unfold State.configErased
  dsimp only
  repeat' split
  · exact h.store _
  · exact (drawn _).store _
  · exact ((drawn _).answer ..).enterFailed

theorem Bounded.sectorErased (k attempt record verified) : Bounded (s.sectorErased k attempt record verified) := by
  unfold State.sectorErased
  dsimp only
  repeat' split
  · exact (h.store _).store _
  · exact ((h.store _).store _).settleReset
  · exact (h.store _).buildAndProgram
  · exact ((h.setFree _).store _).store _
  · exact ((h.setFree _).store _).enterFailed

theorem Bounded.slotWritten (slot bytes final) : Bounded (s.slotWritten slot bytes final) := by
  have moved (v : Store) (hv : v.pointer = nextSlot s.store.pointer := by rfl) : Bounded (s.setStore v) :=
    h.setStore v (hv ▸ nextSlot_lt _)
  unfold State.slotWritten
  dsimp only
  repeat' split
  · exact ((moved _).finalReport _).afterOperation
  · exact (moved _).afterOperation
  · exact ((moved _).finalReport _).enterFailed
  · exact (moved _).enterFailed

theorem Bounded.slotFailed (slot bytes attempt final) : Bounded (s.slotFailed slot bytes attempt final) := by
  have moved (v : Store) (hv : v.pointer = nextSlot s.store.pointer := by rfl) : Bounded (s.setStore v) :=
    h.setStore v (hv ▸ nextSlot_lt _)
  unfold State.slotFailed
  dsimp only
  repeat' split
  · exact (moved _).setStore _ (nextSlot_lt _)
  · exact (moved _).setStore _ (nextSlot_lt _)
  · exact (moved _).enterFailed

theorem Bounded.configured (body : List Byte) : Bounded (s.configured body) := h.store _

theorem Bounded.startRead : Bounded s.startRead :=
  { h with pointer := walk_lt _ _ _ (walkStart_lt ..) }

theorem Bounded.endStart : Bounded s.endStart := by
  unfold State.endStart
  dsimp only
  split <;> exact { h with }

/-! ### The mains and the collector port -/

theorem Bounded.mainsChange : Bounded s.mainsChange := by
  unfold State.mainsChange
  split
  · dsimp only
    split
    · exact ((h.setSupervisor _).setSupervisor _).notifyEntry
    · exact h.setSupervisor _
  · dsimp only
    split
    · exact ((h.setSupervisor _).setSupervisor _).notifyExit
    · exact h.setSupervisor _

theorem Bounded.malformed (xs : List Byte) : Bounded (s.malformed xs) := (h.setPort _).respond ..

theorem Bounded.portAssemble (b : Byte) : Bounded (s.portAssemble b) := by
  unfold State.portAssemble State.completeRequest
  dsimp only
  repeat' split
  all_goals exact h.setPort _

theorem Bounded.abortRequest : Bounded s.abortRequest := (h.setPort _).parityFault

/-! ### The requests of the collector -/

theorem Bounded.runStatus : Bounded s.runStatus := by
  unfold State.runStatus
  split
  · exact h.respond ..
  · exact h.abortRequest

theorem Bounded.runAccount : Bounded s.runAccount := by
  unfold State.runAccount
  split
  · exact h.respond ..
  · exact h.abortRequest

theorem Bounded.runPeek (n : Byte) : Bounded (s.runPeek n) := by
  unfold State.runPeek
  split <;> exact h.respond ..

theorem Bounded.runTake (n : Byte) : Bounded (s.runTake n) := by
  unfold State.runTake
  split
  · refine (h.setQueue _ ?_).respond ..
    exact (List.drop_sublist ..).length_le.trans h.settlement
  · exact h.respond ..

theorem Bounded.runPeers (i : Byte) : Bounded (s.runPeers i) := by
  unfold State.runPeers
  split
  · refine (h.setPeers _ ?_).respond ..
    exact (List.length_filter_le ..).trans h.table
  · exact h.respond ..

theorem Bounded.runCommission (body : List Byte) : Bounded (s.runCommission body) := by
  unfold State.runCommission
  repeat' split
  case h_2.isTrue => exact (h.store _).setPort _
  all_goals exact h.respond ..

theorem Bounded.runLock : Bounded s.runLock := by
  unfold State.runLock
  split
  · exact h.respond ..
  · exact h.respond ..
  · split
    · exact h.respond ..
    · split
      · exact (h.store _).setPort _
      · exact h.respond ..

theorem Bounded.closeAccount : Bounded s.closeAccount :=
  (((h.spentInterval _).setAccount _).setQueue _ (by exact h.settlement)).evaluateLim

theorem Bounded.runClosePeriod : Bounded s.runClosePeriod := by
  unfold State.runClosePeriod
  repeat' split
  · exact h.respond ..
  · exact (h.closeAccount.respond ..).request
  · exact h.abortRequest

theorem Bounded.runRestartBlock (selector : Byte) : Bounded (s.runRestartBlock selector) := by
  unfold State.runRestartBlock
  split
  · exact (h.setLink _ h.link.lineRestart).respond ..
  · refine (h.setSupply _ ?_).respond ..
    unfold Supply.senseRestart
    dsimp only
    split <;> exact h.supplyRing
  · exact h.respond ..

theorem Bounded.runRestartNode : Bounded s.runRestartNode := by
  unfold State.runRestartNode
  dsimp only
  split
  · exact ((h.setPort _).setSupervisor _).finalRequest
  · exact h.setPort _

theorem Bounded.runClearCause : Bounded s.runClearCause := (h.setSupervisor _).respond ..

theorem Bounded.execute (x : Request) : Bounded (s.execute x) := by
  unfold State.execute
  dsimp only
  split
  · exact h.runStatus
  · exact h.runAccount
  · exact h.runPeek _
  · exact h.runTake _
  · exact h.runPeers _
  · exact h.runCommission _
  · exact h.runLock
  · exact h.runClosePeriod
  · exact h.runRestartBlock _
  · exact h.runRestartNode
  · exact h.runClearCause
  · exact h

theorem Bounded.serve (kind : RequestKind) (body : List Byte) {f : State → State}
    (hf : ∀ t, Bounded t → Bounded (f t)) : Bounded (s.serve kind body f) := by
  unfold State.serve
  dsimp only
  repeat' split
  all_goals first
    | exact h
    | exact hf s h
    | exact h.setPort _
    | exact hf _ (h.setPort _)

end


/-! ### Components that commands replace -/

theorem channel_ring (m : Meter) (x : MeterChannel) (ch : Channel) : (m.setChannel x ch).ring = m.ring := by
  cases ch <;> rfl

theorem takeBoundary_ring_le {m : Meter} (h : m.ring.length ≤ 3) (k : Nat) : (m.takeBoundary k).ring.length ≤ 3 :=
  enterRing_length_le _ _ _ h

/-- A change of lines, held result or notifications alone keeps the outputs' ranges. -/
theorem OutputsBounded.congr {o o' : Outputs} (h : OutputsBounded o) (duty : o'.duty = o.duty := by rfl)
    (base : o'.base = o.base := by rfl) (extension : o'.extension = o.extension := by rfl)
    (period : o'.period = o.period := by rfl) (step : o'.step = o.step := by rfl) : OutputsBounded o' :=
  ⟨duty ▸ h.duty, base ▸ h.base, extension ▸ h.extension, period ▸ h.period, step ▸ h.position⟩

theorem OutputsBounded.latch {o : Outputs} (h : OutputsBounded o) : OutputsBounded o.latch :=
  { h with
    base := Nat.le_of_lt_succ (Nat.div_lt_of_lt_mul (by have := h.duty; omega))
    extension := Nat.le_of_lt_succ (Nat.mod_lt _ (by decide)) }

theorem OutputsBounded.advance {o : Outputs} (h : OutputsBounded o) : OutputsBounded o.advance := by
  have latched : OutputsBounded (if o.frameStartDue then o.latch else o) := by
    split
    · exact h.latch
    · exact h
  unfold Outputs.advance
  dsimp only
  generalize (if o.frameStartDue then o.latch else o) = p at latched
  obtain ⟨duty, base, extension, period, position⟩ := latched
  repeat' split
  case isTrue room => exact ⟨duty, base, extension, period, room⟩
  case isFalse.isTrue room => exact ⟨duty, base, extension, room, Nat.zero_le _⟩
  case isFalse.isFalse => exact ⟨duty, base, extension, Nat.zero_le _, Nat.zero_le _⟩

theorem startEvent_ring (u : Supply) (t : StartTerms) : (u.startEvent t).ring = u.ring := by
  unfold Supply.startEvent
  split <;> rfl

theorem freed_ring (u : Supply) (t : StartTerms) : (u.freed t).ring = u.ring := by
  unfold Supply.freed
  repeat' split
  all_goals rfl

theorem referenceDone_ring (u : Supply) (a r : Nat) : (u.referenceDone a r).ring = u.ring := by
  unfold Supply.referenceDone
  dsimp only
  repeat' split
  all_goals rfl

theorem supplyTick_ring (u : Supply) (p : Nat) : (u.tick p).ring = u.ring := by
  unfold Supply.tick
  repeat' split
  all_goals rfl

theorem LinkBounded.tick {k : Link} (h : LinkBounded k) : LinkBounded k.tick := by
  unfold Link.tick
  split
  · exact h
  · exact h.congr

/-! ### The commands -/

/-- A command answers a state within the bounds. -/
def KeepsBounds (o : Host.Outcome State Fault Refusal) : Prop := ∃ t, o = .next t ∧ Bounded t

theorem KeepsBounds.next {s : State} (h : Bounded s) : KeepsBounds (.next s) := ⟨s, rfl, h⟩

/-- A command that the power gates keeps the bounds where its effect does. -/
theorem Bounded.gated {s : State} (h : Bounded s) {f : State → State} (hf : Bounded (f s)) :
    KeepsBounds (s.whenPowered f) := by
  refine .next ?_
  split
  · exact hf
  · exact h

/-- An effect only where its event is due. -/
theorem Bounded.due {s t : State} (h : Bounded s) {p : Prop} [Decidable p] (ht : Bounded t) :
    Bounded (if p then t else s) := by
  split
  · exact ht
  · exact h

section
variable {s : State} (h : Bounded s)
include h

/-! Meter input block and clock -/

theorem Bounded.pulse (ch : Channel) : KeepsBounds (execPulse ch s) := by
  refine h.gated ?_
  dsimp only
  repeat' split
  · exact h.meter _ (channel_ring ..)
  · exact h.meter _ (channel_ring ..)
  · exact (h.meter _ (channel_ring ..)).parityFault

theorem Bounded.holdOffExpiry (ch : Channel) : KeepsBounds (execHoldOffExpiry ch s) := by
  refine h.gated (h.due ?_)
  exact h.meter _ (channel_ring ..)

theorem Bounded.boundarySnapshot : KeepsBounds (execBoundarySnapshot s) := by
  unfold execBoundarySnapshot
  refine h.gated ?_
  dsimp only
  split
  · exact h
  · exact h.meter _
  case h_3 n rest _ =>
    refine (h.meter _).guarded _ _ ?_
    have cut := (h.meter { s.meter with inbox := rest }).setMeter
      (Meter.takeBoundary { s.meter with inbox := rest } n.k) (takeBoundary_ring_le (by exact h.ownRing) n.k)
    split
    · exact (cut.setLink _ h.link.congr).buildSchedule ..
    · exact cut

theorem Bounded.jumpRingHandover : KeepsBounds (execJumpRingHandover s) := by
  unfold execJumpRingHandover
  refine h.gated ?_
  dsimp only
  repeat' split
  · exact h
  · exact h.meter _
  · exact ((h.setMeter _ (by simp)).takeInputs ..).run
  · exact h.setMeter _ (by simp)

theorem Bounded.commissioningCut : KeepsBounds (execCommissioningCut s) := by
  refine h.gated (h.due ?_)
  exact h.guarded _ _ (h.setMeter _ (by simp))

theorem Bounded.startAccumulatorFold : KeepsBounds (execStartAccumulatorFold s) := by
  refine h.gated (h.due ?_)
  exact h.guarded _ _ (h.meter _)

theorem Bounded.oneSecondTick : KeepsBounds (execOneSecondTick s) := by
  have tick (t : State) (ht : Bounded t) :
      Bounded (((t.setClock t.clock.tick).setLink t.link.tick).setSupply (t.supply.tick t.sensePeriod)) :=
    ((ht.setClock _).setLink _ ht.link.tick).supply _ (supplyTick_ring ..)
  refine h.gated ?_
  dsimp only
  split
  · exact tick _ h.takeExpiry
  · exact tick _ h

theorem Bounded.setNumbering : KeepsBounds (execSetNumbering s) := by
  unfold execSetNumbering
  refine h.gated ?_
  dsimp only
  repeat' split
  · exact h.setClock _
  all_goals exact h

/-! Carrier link -/

theorem Bounded.receivedByte (b : Byte) : KeepsBounds (execReceivedByte b s) := by
  unfold execReceivedByte
  refine h.gated ?_
  dsimp only
  repeat' split
  · exact h
  · exact h.setLink _ h.link.congr
  · exact h
  · exact h.setLink _ (h.link.receive_byte ..)
  · exact h

theorem Bounded.framingError : KeepsBounds (execFramingError s) := by
  refine h.gated ?_
  split
  · exact h.setLink _ h.link.checkFailure
  · exact h

theorem Bounded.stallCheckExpiry : KeepsBounds (execStallCheckExpiry s) := by
  refine h.gated (h.due ?_)
  exact h.setLink _ (h.link.hunt.counters _).collide

theorem Bounded.rxdFallingEdge : KeepsBounds (execRxdFallingEdge s) := by
  refine .next ?_
  dsimp only
  repeat' split
  · exact (h.setPins _).setLink _ h.link.congr
  · exact h.setPins _
  · exact h

theorem Bounded.rxdBreak : KeepsBounds (execRxdBreak s) := by
  refine h.gated ?_
  dsimp only
  split
  · refine h.setLink _ (LinkBounded.abandon ?_)
    exact h.link.hunt.congr
  · exact h

theorem Bounded.rxdRisingEdge : KeepsBounds (execRxdRisingEdge s) := by
  refine .next ((h.setPins _).setLink _ ?_)
  dsimp only
  split <;> exact h.link.congr

theorem Bounded.copyScheduleBuild : KeepsBounds (execCopyScheduleBuild s) := by
  unfold execCopyScheduleBuild
  refine h.gated ?_
  have settled (inbox : List Notice) (awaiting : Option Nat) :
      LinkBounded { s.link.settleSchedule with inbox := inbox, awaiting := awaiting } :=
    h.link.settleSchedule.congr
  dsimp only
  repeat' split
  · exact h
  · exact h.setLink _ h.link.congr
  · exact (h.setLink _ (settled _ none)).setLink _ (settled _ _)
  · exact (h.setLink _ (settled _ none)).buildSchedule ..
  · exact h.setLink _ (settled _ none)

theorem Bounded.preJumpMark : KeepsBounds (execPreJumpMark s) := by
  have marked (replaced : Stamp → Bool) (rest : List Notice) :
      LinkBounded { s.link.renumber replaced with inbox := rest } := (h.link.renumber replaced).congr
  unfold execPreJumpMark
  refine h.gated ?_
  dsimp only
  split
  · exact h
  · exact h.setLink _ h.link.congr
  · exact h.setLink _ (marked _ _)

theorem Bounded.linkConfigurationWrite : KeepsBounds (execLinkConfigurationWrite s) := by
  refine h.gated (h.due ?_)
  exact h.setLink _ (h.link.renumber fun x => s.completionDue x.completions).congr

theorem Bounded.copyDue : KeepsBounds (execCopyDue s) := by
  unfold execCopyDue
  refine h.gated ?_
  dsimp only
  split
  case h_2 => exact h
  case h_1 x rest due =>
    have left : LinkBounded { s.link with schedule := rest } := by
      refine ⟨h.receive, h.req, fun suspended => ?_⟩
      have := h.quiet suspended
      simp_all
    have waiting : LinkBounded { s.link with
        schedule := rest, tx := .waiting, req := true, copy := some ⟨s.link.scheduleCount, x.index⟩
        deferLimit := some deferMs } := ⟨h.receive, rfl, nofun⟩
    repeat' split
    · exact ((h.setLink _ left).setLink _ waiting).enterSending rfl _
    · exact (h.setLink _ left).setLink _ waiting
    · exact (h.setLink _ left).setLink _ left.missed
    · exact h

theorem Bounded.clrAsserted (level : Bool) : KeepsBounds (execClrAsserted level s) := by
  unfold execClrAsserted
  refine .next ?_
  dsimp only
  split
  case h_2 => exact h.setPins _
  case h_1 mark _ =>
    split
    case isFalse => exact h.setPins _
    case isTrue waits =>
      refine (h.setPins _).enterSending ?_ mark
      have waiting : s.link.tx = .waiting := of_decide_eq_true (Bool.and_eq_true_iff.mp waits).2
      simp [h.req, waiting]

theorem Bounded.deferLimitExpiry : KeepsBounds (execDeferLimitExpiry s) := by
  refine h.gated ?_
  split
  · exact h.setLink _ h.link.idle.missed
  · exact h

theorem Bounded.lastByteSent : KeepsBounds (execLastByteSent s) := by
  refine h.gated (h.due ?_)
  exact h.setLink _ ⟨h.receive, rfl, nofun⟩

theorem Bounded.echoWindowExpiry : KeepsBounds (execEchoWindowExpiry s) := by
  refine h.gated ?_
  split
  · exact h.setLink _ h.link.collide
  · exact h

theorem Bounded.linkHoldUpEntry : KeepsBounds (execLinkHoldUpEntry s) := by
  unfold execLinkHoldUpEntry
  refine h.gated ?_
  dsimp only
  split
  · exact h.setLink _ ⟨h.link.abandon.receive, rfl, fun _ => rfl⟩
  · exact h
  · exact h

theorem Bounded.linkHoldUpExit : KeepsBounds (execLinkHoldUpExit s) := by
  unfold execLinkHoldUpExit
  refine h.gated ?_
  dsimp only
  split
  · exact h.setLink _ (h.link.idle.hunt.congr)
  · exact h
  · exact h

/-! Peer table and reckoning unit -/

theorem Bounded.frameTake : KeepsBounds (execFrameTake s) := by
  unfold execFrameTake
  refine h.gated ?_
  dsimp only
  repeat' split
  case h_1.isTrue x rest queued _ =>
    have left : LinkBounded { s.link with queue := rest } := by
      refine ⟨?_, h.req, h.quiet⟩
      have := h.receive
      simp only [queued, List.length_cons] at this
      exact (Nat.le_succ _).trans this
    exact (h.setLink _ left).takeFrame x
  all_goals exact h

theorem Bounded.peerTableBoundary : KeepsBounds (execPeerTableBoundary s) := by
  unfold execPeerTableBoundary
  refine h.gated ?_
  have aged (k c : Nat) (inbox : List Notice) := h.setPeers { s.peers.purge (fun _ => true) with
      entries := (s.peers.purge fun _ => true).entries.filterMap fun e => e.atBoundary k
      tableInterval := c, inbox := inbox }
    ((List.length_filterMap_le ..).trans ((purge_entries_length_le ..).trans h.table))
  dsimp only
  repeat' split
  · exact h
  · exact h.peers _
  · exact ((aged ..).takeInput ..).run
  · exact aged ..

theorem Bounded.peerTableJump : KeepsBounds (execPeerTableJump s) := by
  unfold execPeerTableJump
  refine h.gated ?_
  have emptied (c : Nat) (inbox : List Notice) := h.setPeers { s.peers.purge (fun _ => true) with
      entries := (s.peers.purge fun _ => true).entries.map fun e => { e with slots := [] }
      tableInterval := c, inbox := inbox }
    (by rw [List.length_map]; exact (purge_entries_length_le ..).trans h.table)
  dsimp only
  repeat' split
  · exact h
  · exact h.peers _
  · exact ((emptied ..).takeInputs ..).run
  · exact emptied ..

theorem Bounded.peerTableCommissioning : KeepsBounds (execPeerTableCommissioning s) := by
  refine h.gated (h.due ?_)
  exact h.setPeers _ (by simp)

theorem Bounded.reckoningInstruction : KeepsBounds (execReckoningInstruction s) := by
  unfold execReckoningInstruction
  refine h.gated ?_
  dsimp only
  repeat' split
  case h_1.isFalse.isTrue k _ _ _ rest _ _ _ =>
    have released := (((h.setReckoning { s.reckoning with inbox := rest }).setMeter _
      ((s.meter.release_ring_length_le (k - 2)).trans h.ownRing)).setSupply _
      ((s.supply.release_ring_length_le (k - 2)).trans h.supplyRing))
    exact (released.takeInstructed ..).run
  case h_1.isFalse.isFalse => exact h.setReckoning _
  all_goals exact h

theorem Bounded.cutShortInstruction : KeepsBounds (execCutShortInstruction s) := by
  unfold execCutShortInstruction
  refine h.gated ?_
  dsimp only
  repeat' split
  case h_1.isFalse.isTrue => exact ((h.setReckoning _).takeInstructed ..).run
  case h_1.isFalse.isFalse => exact h.setReckoning _
  all_goals exact h

/-! Household outputs -/

theorem Bounded.surFrameStart : KeepsBounds (execSurFrameStart s) := by
  refine h.gated ?_
  split
  · exact h.setOutputs _ h.outputs.latch
  · exact h

theorem Bounded.surGeneratorStep : KeepsBounds (execSurGeneratorStep s) := by
  refine h.gated ?_
  exact h.setOutputs _ h.outputs.advance

theorem Bounded.startEndLim : KeepsBounds (execStartEndLim s) := by
  refine h.gated (h.due ?_)
  exact (h.setOutputs _ h.outputs.congr).evaluateLim

theorem Bounded.limConfigurationWrite : KeepsBounds (execLimConfigurationWrite s) := by
  refine h.gated (h.due ?_)
  exact (h.setOutputs _ h.outputs.congr).evaluateLim

theorem Bounded.outputsHoldUpEntry : KeepsBounds (execOutputsHoldUpEntry s) := by
  unfold execOutputsHoldUpEntry
  refine h.gated ?_
  dsimp only
  split
  · exact h.setOutputs _ ⟨Nat.zero_le _, Nat.zero_le _, Nat.zero_le _, Nat.zero_le _, Nat.zero_le _⟩
  · exact h
  · exact h

theorem Bounded.outputsHoldUpExit : KeepsBounds (execOutputsHoldUpExit s) := by
  unfold execOutputsHoldUpExit
  refine h.gated ?_
  dsimp only
  split
  · refine (h.setOutputs _ ?_).evaluateLim
    exact ⟨dutyOf_le _, h.base, h.extension, h.period, h.position⟩
  · exact h
  · exact h

/-! Supply sense -/

theorem Bounded.settlingTimerExpiry : KeepsBounds (execSettlingTimerExpiry s) := by
  refine h.gated ?_
  dsimp only
  repeat' split
  · exact h.supply _
  · exact h.supply _
  · exact h

theorem Bounded.converterHalt : KeepsBounds (execConverterHalt s) := by
  unfold execConverterHalt
  refine h.gated ?_
  dsimp only
  split
  · exact h.supply _
  all_goals exact h

theorem Bounded.converterResettle : KeepsBounds (execConverterResettle s) := by
  unfold execConverterResettle
  refine h.gated ?_
  dsimp only
  split
  · exact h.supply _
  all_goals exact h

theorem Bounded.startEvent : KeepsBounds (execStartEvent s) := by
  refine h.gated ?_
  split
  · exact h.supply _ (startEvent_ring ..)
  · exact h

theorem Bounded.conversionComplete (sum : Nat) : KeepsBounds (execConversionComplete sum s) := by
  unfold execConversionComplete
  refine h.gated ?_
  dsimp only
  repeat' split
  · exact h.supply _ (freed_ring ..)
  · exact h
  · exact h.supply _ (freed_ring ..)
  · exact h.supply _ ((freed_ring ..).trans (referenceDone_ring ..))
  · exact h
  · exact h

theorem Bounded.islAssertion (level : Bool) : KeepsBounds (execIslAssertion level s) := by
  refine .next ?_
  dsimp only
  split
  · exact (h.setPins _).supply _
  · exact h.setPins _

theorem Bounded.supplyRecordClosure : KeepsBounds (execSupplyRecordClosure s) := by
  unfold execSupplyRecordClosure
  refine h.gated ?_
  dsimp only
  split
  · exact h
  · exact h.supply _
  · exact h.setSupply _ (enterRing_length_le _ _ _ h.supplyRing)

theorem Bounded.supplyJumpHandover : KeepsBounds (execSupplyJumpHandover s) := by
  unfold execSupplyJumpHandover
  refine h.gated ?_
  dsimp only
  repeat' split
  · exact h
  · exact h.supply _
  · exact ((h.setSupply _ (by simp)).takeInputs ..).run
  · exact h.setSupply _ (by simp)

theorem Bounded.supplyCommissioning : KeepsBounds (execSupplyCommissioning s) := by
  refine h.gated (h.due ?_)
  exact h.setSupply _ (by simp)

/-! Checkpoint store -/

theorem Bounded.checkpointRequest : KeepsBounds (execCheckpointRequest s) := by
  unfold execCheckpointRequest
  refine h.gated ?_
  dsimp only
  split
  · exact (h.store _).request
  · exact h

theorem Bounded.eraseComplete (verified : Bool) : KeepsBounds (execEraseComplete verified s) := by
  unfold execEraseComplete
  refine h.gated ?_
  split
  · exact h.configErased ..
  · exact h.sectorErased ..
  all_goals exact h

theorem Bounded.slotProgramComplete (verified : Bool) : KeepsBounds (execSlotProgramComplete verified s) := by
  unfold execSlotProgramComplete
  refine h.gated ?_
  split
  · split
    · exact h.slotWritten ..
    · exact h.slotFailed ..
  all_goals exact h

theorem Bounded.configurationWriteComplete (verified : Bool) :
    KeepsBounds (execConfigurationWriteComplete verified s) := by
  unfold execConfigurationWriteComplete
  refine h.gated ?_
  dsimp only
  split
  · split
    · split
      · exact (h.configured _).settleReset
      · exact (((h.configured _).store _).answer ..).afterOperation
    · exact (((h.setFree _).store _).answer ..).afterOperation
  all_goals exact h

theorem Bounded.lockMarkerProgramComplete (verified : Bool) :
    KeepsBounds (execLockMarkerProgramComplete verified s) := by
  unfold execLockMarkerProgramComplete
  refine h.gated ?_
  dsimp only
  split
  · split <;> exact ((h.store _).answer ..).afterOperation
  all_goals exact h

/-! Power supervisor -/

theorem Bounded.mainsMeasurementExpiry : KeepsBounds (execMainsMeasurementExpiry s) := by
  unfold execMainsMeasurementExpiry
  refine h.gated ?_
  repeat' split
  · exact h.mainsChange
  all_goals exact h

theorem Bounded.mnsEdge (level : Bool) : KeepsBounds (execMnsEdge level s) := by
  refine .next ?_
  dsimp only
  split
  · exact h
  · split <;> exact (h.setPins _).setSupervisor _

theorem Bounded.sloAsserted : KeepsBounds (execSloAsserted s) := by
  refine .next ?_
  dsimp only
  repeat' split
  · exact h
  · exact bounded_powerOff _
  · exact (h.setPins _).setSupervisor _

theorem Bounded.sloInactive : KeepsBounds (execSloInactive s) := by
  refine .next ?_
  dsimp only
  repeat' split
  · exact h.setPins _
  · exact (h.setPins _).setSupervisor _
  · exact h

theorem Bounded.powerOnLevel : KeepsBounds (execPowerOnLevel s) := by
  refine .next ?_
  repeat' split
  · exact h.setSupervisor _
  · exact bounded_nodeReset ..
  · exact bounded_nodeReset ..

theorem Bounded.mainsReturnPowerUp : KeepsBounds (execMainsReturnPowerUp s) := by
  refine .next ?_
  split
  · exact (bounded_nodeReset ..).setSupervisor _
  · exact h

/-! Collector port -/

theorem Bounded.portReceivedByte (b : Byte) : KeepsBounds (execPortReceivedByte b s) := by
  unfold execPortReceivedByte
  refine h.gated ?_
  dsimp only
  repeat' split
  case h_2 => exact h.portAssemble b
  all_goals exact h.setPort _

theorem Bounded.responseSent : KeepsBounds (execResponseSent s) := by
  refine h.gated ?_
  dsimp only
  repeat' split
  · exact ((h.setPort _).setSupervisor _).settleReset
  · exact h.setPort _
  · exact h

theorem Bounded.heldRequestExecution : KeepsBounds (execHeldRequestExecution s) := by
  unfold execHeldRequestExecution
  refine h.gated ?_
  dsimp only
  repeat' split
  · exact (h.setPort _).execute _
  · exact h.setPort _
  · exact h.setPort _
  · exact h

theorem Bounded.commission (body : List Byte) : KeepsBounds (execCommission body s) := by
  refine h.gated ?_
  repeat' split
  · exact h.serve _ _ fun t ht => ht.runCommission body
  · exact h.malformed _
  · exact h

/-- Every command answers a state within the bounds. -/
theorem Bounded.exec (i : Instr) : KeepsBounds (exec i s) := by
  cases i with
  | pulse ch => exact h.pulse ch
  | holdOffExpiry ch => exact h.holdOffExpiry ch
  | boundarySnapshot => exact h.boundarySnapshot
  | jumpRingHandover => exact h.jumpRingHandover
  | commissioningCut => exact h.commissioningCut
  | startAccumulatorFold => exact h.startAccumulatorFold
  | oneSecondTick => exact h.oneSecondTick
  | receivedByte b => exact h.receivedByte b
  | framingError => exact h.framingError
  | stallCheckExpiry => exact h.stallCheckExpiry
  | rxdFallingEdge => exact h.rxdFallingEdge
  | rxdBreak => exact h.rxdBreak
  | rxdRisingEdge => exact h.rxdRisingEdge
  | copyScheduleBuild => exact h.copyScheduleBuild
  | preJumpMark => exact h.preJumpMark
  | linkConfigurationWrite => exact h.linkConfigurationWrite
  | copyDue => exact h.copyDue
  | clrAsserted level => exact h.clrAsserted level
  | deferLimitExpiry => exact h.deferLimitExpiry
  | lastByteSent => exact h.lastByteSent
  | echoWindowExpiry => exact h.echoWindowExpiry
  | linkHoldUpEntry => exact h.linkHoldUpEntry
  | linkHoldUpExit => exact h.linkHoldUpExit
  | frameTake => exact h.frameTake
  | peerTableBoundary => exact h.peerTableBoundary
  | peerTableJump => exact h.peerTableJump
  | peerTableCommissioning => exact h.peerTableCommissioning
  | reckoningInstruction => exact h.reckoningInstruction
  | cutShortInstruction => exact h.cutShortInstruction
  | surFrameStart => exact h.surFrameStart
  | surGeneratorStep => exact h.surGeneratorStep
  | startEndLim => exact h.startEndLim
  | limConfigurationWrite => exact h.limConfigurationWrite
  | outputsHoldUpEntry => exact h.outputsHoldUpEntry
  | outputsHoldUpExit => exact h.outputsHoldUpExit
  | startEvent => exact h.startEvent
  | conversionComplete sum => exact h.conversionComplete sum
  | islAssertion level => exact h.islAssertion level
  | supplyRecordClosure => exact h.supplyRecordClosure
  | supplyJumpHandover => exact h.supplyJumpHandover
  | supplyCommissioning => exact h.supplyCommissioning
  | checkpointRequest => exact h.checkpointRequest
  | eraseComplete verified => exact h.eraseComplete verified
  | slotProgramComplete verified => exact h.slotProgramComplete verified
  | configurationWriteComplete verified => exact h.configurationWriteComplete verified
  | lockMarkerProgramComplete verified => exact h.lockMarkerProgramComplete verified
  | mainsMeasurementExpiry => exact h.mainsMeasurementExpiry
  | mnsEdge level => exact h.mnsEdge level
  | sloAsserted => exact h.sloAsserted
  | sloInactive => exact h.sloInactive
  | powerOnLevel => exact h.powerOnLevel
  | mainsReturnPowerUp => exact h.mainsReturnPowerUp
  | portReceivedByte b => exact h.portReceivedByte b
  | responseSent => exact h.responseSent
  | heldRequestExecution => exact h.heldRequestExecution
  | commission body => exact h.commission body
  | status => exact h.gated (h.serve _ _ fun t => Bounded.runStatus)
  | account => exact h.gated (h.serve _ _ fun t => Bounded.runAccount)
  | peekRecords n => exact h.gated (h.serve _ _ fun t ht => ht.runPeek n)
  | takeRecords n => exact h.gated (h.serve _ _ fun t ht => ht.runTake n)
  | peers n => exact h.gated (h.serve _ _ fun t ht => ht.runPeers n)
  | lock => exact h.gated (h.serve _ _ fun t => Bounded.runLock)
  | closePeriod => exact h.gated (h.serve _ _ fun t => Bounded.runClosePeriod)
  | restartBlock b => exact h.gated (h.serve _ _ fun t ht => ht.runRestartBlock b)
  | restartNode => exact h.gated (h.serve _ _ fun t => Bounded.runRestartNode)
  | clearCause => exact h.gated (h.serve _ _ fun t => Bounded.runClearCause)
  | boundary => exact h.gated (by exact h.due h.takeExpiry)
  | listenWindowExpiry => exact h.gated (by exact h.due (h.setClock _))
  | listenWindowStart => exact h.gated (by exact h.due (h.setClock _))
  | setNumbering => exact h.setNumbering
  | takingBegins => exact h.gated (by exact h.due (h.peers _))
  | reckoningCommissioning => exact h.gated (by exact h.due (h.setReckoning _))
  | settlingTimerExpiry => exact h.settlingTimerExpiry
  | converterHalt => exact h.converterHalt
  | converterResettle => exact h.converterResettle
  | selectionEvent => exact h.gated (by exact h.due h.startRead.endStart)
  | portFramingError => exact h.gated (by exact h.due (h.malformed _))
  | gapTimerExpiry => exact h.gated (by exact h.due (h.malformed _))

end

end Sys2Proof.Safety

/-! SUPPORT. One step: the command at the front, or one millisecond (00_scope.md 5.6, R1). -/

namespace Sys2Proof.Machine

open Sys2Proof.Safety

/-! ### A stored bit's upset strikes the stored parity of one item -/

section
variable (s : State) (p : Option ParityItem)

@[simp] theorem upset_timebase : (s.upset p).meter.timebase = s.meter.timebase := by
  rcases p with _ | _ | _ <;> rfl

@[simp] theorem upset_meter_ring : (s.upset p).meter.ring = s.meter.ring := by
  rcases p with _ | _ | _ <;> rfl

@[simp] theorem upset_peers_entries_length : (s.upset p).peers.entries.length = s.peers.entries.length := by
  rcases p with _ | _ | _ <;> simp [State.upset]

/-- An upset strikes nothing but the meter, the table, the reckoning unit and the account. -/
theorem upset_frame : ∃ m u acc e, s.upset p = { s with meter := m, reckoning := u, account := acc, peers := e } := by
  rcases p with _ | _ | _ <;> exact ⟨_, _, _, _, rfl⟩

end

/-- Settles O1. -/
theorem stepTakesTheFrontCommand : Obligations.StepTakesTheFrontCommand := fun _ _ _ => rfl

theorem step_of_empty {s : State} (empty : s.pending = []) : step s = .next s.elapse := by
  simp [step, empty]

theorem step_of_cons {s : State} {i : Instr} {rest : List Instr} (queue : s.pending = i :: rest) :
    step s = exec i { s with pending := rest } := by
  simp [step, queue]

theorem elapse_of_powered {s : State} (powered : s.supervisor.powered = true) :
    s.elapse = (s.upset (Config.upset s.freeCount)).tickMs := by
  simp [State.elapse, powered]

/-- Settles O2: the upset that may fall in the millisecond strikes none of the items the statement names. -/
theorem emptyQueueStepIsOneMillisecond : Obligations.EmptyQueueStepIsOneMillisecond := by
  intro s empty powered
  refine ⟨_, (step_of_empty empty).trans (congrArg _ (elapse_of_powered powered)), ?_⟩
  have timebase := upset_timebase s (Config.upset s.freeCount)
  obtain ⟨m, u, acc, e, struck⟩ := upset_frame s (Config.upset s.freeCount)
  rw [struck] at timebase ⊢
  refine ⟨congrArg (· + 1) timebase, rfl, rfl, fun n running => ?_, fun stopped => ?_, rfl, rfl, rfl, rfl, rfl, rfl,
    empty⟩
  · simp [State.tickMs, running, SettlingTimer.elapse]
  · have still : s.supply.settling.elapse = s.supply.settling := by
      cases timer : s.supply.settling with
      | running n => exact absurd timer (stopped n)
      | stopped => rfl
      | expired => rfl
    simp [State.tickMs, still]

end Sys2Proof.Machine

namespace Sys2Proof.Safety

open Sys2Proof.Machine

/-- Settles O4. -/
theorem boundsHoldAtReset : Obligations.BoundsHoldAtReset := by
  constructor <;> decide

/-- One millisecond keeps the bounds: no timer and no stored parity is bounded. -/
theorem Bounded.elapse {s : State} (h : Bounded s) : Bounded s.elapse := by
  unfold State.elapse
  split
  case isTrue =>
    have ring := upset_meter_ring s (Config.upset s.freeCount)
    have table := upset_peers_entries_length s (Config.upset s.freeCount)
    obtain ⟨m, u, acc, e, struck⟩ := upset_frame s (Config.upset s.freeCount)
    rw [struck] at ring table ⊢
    exact { h with ownRing := (congrArg List.length ring).le.trans h.ownRing, table := table.le.trans h.table }
  case isFalse => exact h.setSupervisor _

/-- The queue of waiting commands is bounded by nothing. -/
theorem Bounded.setPending {s : State} (h : Bounded s) (rest : List Instr) : Bounded { s with pending := rest } :=
  { h with }

/-- Settles O5: the millisecond and every command keep the bounds. -/
theorem everyStepKeepsTheBounds : Obligations.EveryStepKeepsTheBounds := by
  intro s t h stepped
  cases queue : s.pending with
  | nil =>
    rw [step_of_empty queue] at stepped
    cases stepped
    exact h.elapse
  | cons i rest =>
    rw [step_of_cons queue] at stepped
    obtain ⟨u, ran, kept⟩ := (h.setPending rest).exec i
    cases ran.symm.trans stepped
    exact kept

end Sys2Proof.Safety

/-! SUPPORT. What the proofs of every chapter use: counters, parity resets, rings, the completions' bookkeeping, and
power-off (R9, R127, R161, R184, R188). -/

namespace Sys2Proof.Machine

open Sys2Proof.Safety

/-! ### Counters -/

theorem count16_eq_min (n : Nat) : count16 n = min 65535 (n + 1) := satInc_eq_min ..

theorem count16_count16 (n : Nat) : count16 (count16 n) = min 65535 (n + 2) := by
  rw [count16_eq_min, count16_eq_min]
  omega

theorem count32_eq_min (n : Nat) : count32 n = min 4294967295 (n + 1) := satInc_eq_min ..

/-! ### Rings -/

/-- What the ring operation leaves is what the rules say of a record that enters. -/
theorem entersRing_enterRing {α : Type} (interval : α → Nat) (ring : List α) (x : α) :
    EntersRing interval ring x (enterRing interval ring x) where
  room h := enterRing_room interval h x
  full h _ _ _ split low first := enterRing_full interval h split low first x

/-- A record that enters a ring which holds none of its interval is the one found there. -/
theorem enterRing_find? {α : Type} {interval : α → Nat} {ring : List α} {x : α} {k : Nat} (hx : interval x = k)
    (fresh : ∀ y ∈ ring, interval y ≠ k) :
    (enterRing interval ring x).find? (fun y => interval y == k) = some x := by
  have older : (if ring.length < ringSize then ring else dropLowest interval ring).find?
      (fun y => interval y == k) = none := by
    refine List.find?_eq_none.mpr fun y hy => ?_
    have inRing : y ∈ ring := by
      split at hy
      · exact hy
      · exact List.mem_of_mem_eraseP hy
    simpa using fresh y inRing
  rw [enterRing, List.find?_append, older]
  simp [hx]

/-! ### Completed configuration writes (R161) -/

section
variable {s : State} {epoch : Nat}

@[simp] theorem completionDue_iff : s.completionDue epoch = true ↔ epoch < s.store.completions := by
  simp [State.completionDue]

theorem completionDue_eq_false (h : s.store.completions ≤ epoch) : s.completionDue epoch = false := by
  simp [State.completionDue, h]

end

/-! ### The parity fault (R188) -/

section
variable (s : State)

theorem guarded_true (f : State → State) : s.guarded true f = f s := rfl

theorem guarded_false (f : State → State) : s.guarded false f = s.parityFault := rfl

/-- With an operation in flight the reset is pending. -/
theorem parityFault_busy (busy : s.store.op ≠ none) :
    s.parityFault = s.setSupervisor { s.supervisor with resetPending := .parity, finalAwaited := false } := by
  have inFlight : s.store.op.isSome = true := Option.isSome_iff_ne_none.mpr busy
  simp [State.parityFault, State.settleReset, inFlight]

/-- With no operation in flight the reset takes effect at once. -/
theorem parityFault_idle (idle : s.store.op = none) :
    s.parityFault =
      (s.setSupervisor { s.supervisor with resetPending := .parity, finalAwaited := false }).nodeReset .parity := by
  simp [State.parityFault, State.settleReset, idle]

end

/-- `t` is `s` after a PARITY reset. -/
structure ParityReset (s t : State) : Prop where
  op : t.supervisor.op = .start
  last : t.supervisor.cause.last = some .parity
  count : t.supervisor.cause.parity = min 65535 (s.supervisor.cause.parity + 1)
  array : t.store.array = s.store.array
  leaves : ResetLeaves s.pins t

theorem parityReset_of_idle {s : State} (idle : s.store.op = none) : ParityReset s s.parityFault := by
  rw [parityFault_idle s idle]
  exact ⟨rfl, rfl, count16_eq_min _, rfl, nodeReset_leaves ..⟩

/-! ### Power-off (R184) -/

/-- Settles O8: each of these commands is gated by the power. -/
theorem powerOffStopsTheBlocks : Obligations.PowerOffStopsTheBlocks := by
  intro s off
  simp [exec, execPulse, execOneSecondTick, execReceivedByte, execFrameTake, execCheckpointRequest,
    execSlotProgramComplete, execPortReceivedByte, execStatus, execMainsMeasurementExpiry, whenPowered_off off]

end Sys2Proof.Machine

/-! SUPPORT. The meter input block: pulses, the boundary cut, commissioning and the handovers of a jump (R2 to R13). -/

namespace Sys2Proof.Machine

open Sys2Proof.Safety

/-! ### Pulses (R2 to R6) -/

/-- Settles O9: a pulse and an expiry by the channel's state; an expiry one millisecond early finds its time not
reached. -/
theorem holdOffRejectsAndExpires : Obligations.HoldOffRejectsAndExpires := by
  refine ⟨fun s powered => ⟨fun held => ?_, fun held => ?_⟩,
    fun s powered => ⟨fun held now => ?_, fun held now => ?_, fun held early => ?_⟩⟩
  · simp only [exec, execPulse, whenPowered_on powered]
    simp [Meter.channel, held, count16_eq_min, Meter.setChannel, State.setMeter]
  · simp only [exec, execPulse, whenPowered_on powered]
    simp [Meter.channel, held, count16_eq_min, Meter.setChannel, State.setMeter]
  · simp only [exec, execHoldOffExpiry, whenPowered_on powered]
    simp [Meter.channel, held, ← now, reached, Meter.setChannel, State.setMeter]
  · simp only [exec, execHoldOffExpiry, whenPowered_on powered]
    simp [Meter.channel, held, ← now, reached, Meter.setChannel, State.setMeter]
  · simp only [exec, execHoldOffExpiry, whenPowered_on powered]
    simp [Meter.channel, held, ← early, reached]

/-- A pulse that an OPEN channel accepts, with the parity of the value it is added to holding. -/
theorem exec_pulse_accepted {s : State} (powered : s.supervisor.powered = true) {ch : Channel}
    (opened : (s.meter.channel ch).state = .openChannel)
    (sound : (s.meter.channel ch).addOk (decide (s.supervisor.op = .start)) = true) :
    exec (.pulse ch) s = .next (s.setMeter (s.meter.setChannel
      (((s.meter.channel ch).accept s.meter.timebase s.spacing).count (decide (s.supervisor.op = .start))
        (s.weight ch)) ch)) := by
  simp only [exec, execPulse, whenPowered_on powered]
  simp [opened, sound]

/-- Settles O10: outside START the counter takes the weight, in START the accumulator. -/
theorem acceptedPulseIsCounted : Obligations.AcceptedPulseIsCounted := by
  refine ⟨fun s powered op => ⟨fun opened sound => ?_, fun opened sound => ?_⟩,
    fun s powered op => ⟨fun opened sound => ?_, fun opened sound => ?_⟩,
    fun s => ⟨fun w working => ?_, fun fresh => ?_⟩⟩
  · rw [exec_pulse_accepted (ch := .imp) powered opened (by simpa [op, MeterChannel.addOk, Meter.channel] using sound)]
    simp [op, MeterChannel.count]
    rfl
  · rw [exec_pulse_accepted (ch := .exp) powered opened (by simpa [op, MeterChannel.addOk, Meter.channel] using sound)]
    simp [op, MeterChannel.count]
    rfl
  · rw [exec_pulse_accepted (ch := .imp) powered opened (by simpa [op, MeterChannel.addOk, Meter.channel] using sound)]
    simp [op, MeterChannel.count]
    rfl
  · rw [exec_pulse_accepted (ch := .exp) powered opened (by simpa [op, MeterChannel.addOk, Meter.channel] using sound)]
    simp [op, MeterChannel.count]
    rfl
  · simp [State.weight, State.spacing, State.config, working]
  · simp [State.weight, State.spacing, State.config, fresh]

/-- Settles O11: the pulse is accepted by the filter and its count refused by the parity check. -/
theorem pulseOnFailedParityMakesAReset : Obligations.PulseOnFailedParityMakesAReset := by
  intro s powered op opened failed
  obtain ⟨t, ht⟩ : ∃ t, t = s.setMeter
      (s.meter.setChannel (s.meter.imp.accept s.meter.timebase s.spacing) .imp) := ⟨_, rfl⟩
  have pulse : exec (.pulse .imp) s = .next t.parityFault := by
    rw [ht]
    simp only [exec, execPulse, whenPowered_on powered]
    simp [Meter.channel, opened, MeterChannel.addOk, op, failed]
  refine ⟨_, pulse, fun idle => ?_, fun busy => ?_⟩
  · obtain ⟨op, last, count, array, leaves⟩ := parityReset_of_idle (s := t) (ht ▸ idle)
    subst ht
    exact ⟨op, last, count, array, leaves⟩
  · rw [parityFault_busy t (ht ▸ busy), ht]
    exact ⟨rfl, rfl, rfl⟩

/-! ### The boundary cut (R7 to R10, R47) -/

section
variable {s : State} {k n : Nat}

/-- Nothing is scheduled where the node is not in RUN, the transmit side is SUSPENDED or no configuration is held
(R47). -/
theorem buildSchedule_eq_self (h : s.supervisor.op ≠ .run ∨ s.link.tx = .suspended ∨ s.store.working = none) :
    s.buildSchedule k n = s := by
  unfold State.buildSchedule
  split
  case h_1 x g _ config =>
    refine if_neg fun may => ?_
    rcases h with op | tx | fresh
    · exact op may.1
    · exact may.2 tx
    · simp [State.config, fresh] at config
  case h_2 => rfl

/-- With no record of k held nothing is scheduled (R47). -/
theorem buildSchedule_of_no_record (h : ∀ y ∈ s.meter.ring, y.interval ≠ k) : s.buildSchedule k n = s := by
  have unheld : s.meter.recordOf k = none := List.find?_eq_none.mpr fun y hy => by simpa using h y hy
  unfold State.buildSchedule
  rw [unheld]

/-- The schedule of a record of k held in RUN, behind the parity of the snapshot (R47, R10). -/
theorem buildSchedule_of_record {w : Working} {x : OwnRecord} (op : s.supervisor.op = .run)
    (tx : s.link.tx ≠ .suspended) (working : s.store.working = some w) (held : s.meter.recordOf k = some x) :
    s.buildSchedule k n = s.guarded s.meter.snapshotParity fun s =>
      (s.setLink { s.link with
        schedule := scheduleOf w.record s.clock.length n, scheduleCount := w.record.copies, elapsed := 0 }).setMeter
        { s.meter with restart := s.meter.restart && !x.restarted } := by
  simp [State.buildSchedule, held, State.config, working, op, tx]

/-- A boundary taken with the parity of the cut's values holding: the record of k enters the ring, and a schedule that
waits for it is built. -/
theorem exec_boundarySnapshot {t : State} {a : Alignment} {rest : List Notice} (powered : s.supervisor.powered = true)
    (current : s.store.completions ≤ s.meter.epoch) (inbox : s.meter.inbox = .boundary k n a s.meter.epoch :: rest)
    (sound : s.meter.boundaryOk = true) (ht : t = s.setMeter { s.meter.takeBoundary k with inbox := rest }) :
    exec .boundarySnapshot s = .next (if s.link.awaiting = some k then
      (t.setLink { s.link with awaiting := none }).buildSchedule k n else t) := by
  simp only [exec, execBoundarySnapshot, whenPowered_on powered]
  simp only [inbox, boundaryFront, Delivery.front_current current, sound, guarded_true, ht]
  rfl

end

theorem ownRecord_saturated_iff (m : Meter) (k : Nat) : (m.ownRecord k).saturated = true ↔
    65535 < (m.cut.exp - m.snapshot.exp).toNat ∨ 65535 < (m.cut.imp - m.snapshot.imp).toNat := by
  simp [Meter.ownRecord, max16]

/-- Settles O12: the record that enters is that of the cut; what the link waited for it decides whether its schedule is
built in the same event. -/
theorem boundarySnapshotMakesTheRecord : Obligations.BoundarySnapshotMakesTheRecord := by
  intro s k n a rest powered current inbox sound
  have taken := exec_boundarySnapshot powered current inbox sound rfl
  have parity : s.meter.snapshotParity = true := (Bool.and_eq_true_iff.mp sound).2
  refine ⟨s.meter.ownRecord k, _, _, entersRing_enterRing .., rfl, fun other => ?_, fun waited no => ?_,
    fun w waited op tx working fresh => ?_, rfl, rfl, rfl, rfl, rfl, rfl, ownRecord_saturated_iff ..⟩
  · rw [taken, if_neg other]
    rfl
  · rw [taken, if_pos waited]
    exact congrArg Host.Outcome.next (buildSchedule_eq_self no)
  · rw [taken, if_pos waited]
    refine congrArg Host.Outcome.next
      ((buildSchedule_of_record (w := w) (x := s.meter.ownRecord k) ?op ?tx ?working ?held).trans ?_)
    case op => exact op
    case tx => exact tx
    case working => exact working
    case held => exact enterRing_find? (x := s.meter.ownRecord k) rfl fresh
    simp [parity, guarded_true, Meter.ownRecord, Meter.takeBoundary]
    rfl

/-! ### Commissioning (R5, R6, R13) -/

/-- Settles O13. -/
theorem commissioningCutAndFold : Obligations.CommissioningCutAndFold := by
  intro s powered
  refine ⟨fun sound outstanding => ?_, fun sound due => ?_,
    fun k n a e rest old => ⟨fun inbox => ?_, fun inbox => ?_⟩, ?_, ?_⟩
  · simp only [exec, execCommissioningCut, whenPowered_on powered]
    simp [outstanding, sound, guarded_true]
    rfl
  · simp only [exec, execStartAccumulatorFold, whenPowered_on powered]
    simp [due, sound, guarded_true]
    rfl
  · simp only [exec, execBoundarySnapshot, whenPowered_on powered]
    simp [inbox, boundaryFront, old]
    rfl
  · simp only [exec, execJumpRingHandover, whenPowered_on powered]
    simp [inbox, jumpFront, old]
    rfl
  · simp [Meter.countersOk, MeterChannel.parityOk, and_assoc]
  · simp [Meter.boundaryOk]

/-! ### A jump's handovers (R12, R82, R90 to R92, R129) -/

theorem cutShortIntervals_zero : cutShortIntervals 0 = [] := rfl

theorem cutShortIntervals_one : cutShortIntervals 1 = [0] := rfl

theorem cutShortIntervals_of_two_le {o : Nat} (h : 2 ≤ o) : cutShortIntervals o = [o - 2, o - 1] := by
  simp [cutShortIntervals, h, show 1 ≤ o by omega]

theorem closedTo_eq_false {last : Option Nat} {j : Nat} (h : ∀ l, last = some l → l < j) : closedTo last j = false := by
  unfold closedTo
  split
  case h_1 l => simpa using h l rfl
  case h_2 => rfl

theorem closedTo_eq_true {last : Option Nat} {j l : Nat} (h : last = some l) (le : j ≤ l) : closedTo last j = true := by
  simp [closedTo, h, le]

/-- An input that no pending reckoning awaits, of an interval above the last reckoned one, opens a pending reckoning
(R91). -/
theorem takeInput_opens {s : State} {order j : Nat} {i : ReckoningInput} (parity : s.reckoning.lastParity = true)
    (unawaited : fillPending j i s.reckoning.pending = none) (above : ∀ l, s.reckoning.last = some l → l < j) :
    s.takeInput order j i = .done (s.setReckoning { s.reckoning with
      pending := insertPending ((PendingReckoning.opened order j).take i) s.reckoning.pending }) := by
  simp [State.takeInput, unawaited, State.unmatched, parity, closedTo_eq_false above]

theorem take_interval (p : PendingReckoning) (i : ReckoningInput) : (p.take i).interval = p.interval := by
  cases i <;> rfl

theorem take_order (p : PendingReckoning) (i : ReckoningInput) : (p.take i).order = p.order := by
  cases i <;> rfl

/-- With nothing pending, the inputs of a jump open a pending reckoning for each interval it cuts short (R90, R91). -/
theorem takeInputs_cutShort {s : State} {o : Nat} (i : Nat → ReckoningInput) (parity : s.reckoning.lastParity = true)
    (empty : s.reckoning.pending = []) (above : ∀ l, s.reckoning.last = some l → l + 2 < o) :
    s.takeInputs (2 * o) ((cutShortIntervals o).map fun j => (j, i j)) =
      .done (s.setReckoning { s.reckoning with pending := cutShortOpened o i }) := by
  match o, above with
  | 0, _ =>
    simp only [cutShortOpened, cutShortIntervals_zero, List.map_nil, State.takeInputs, ← empty]
    rfl
  | 1, above =>
    have first := takeInput_opens (order := 2 * 1) (i := i 0) parity (j := 0) (by simp [empty, fillPending])
      fun l last => absurd (above l last) (by omega)
    simp only [cutShortOpened, cutShortIntervals_one, List.map_cons, List.map_nil, State.takeInputs, first, empty,
      Guarded.andThen]
    rfl
  | o + 2, above =>
    have first := takeInput_opens (order := 2 * (o + 2)) (i := i o) parity (j := o) (by simp [empty, fillPending])
      fun l last => by have := above l last; omega
    have second := takeInput_opens (s := s.setReckoning { s.reckoning with
        pending := [(PendingReckoning.opened (2 * (o + 2)) o).take (i o)] }) (order := 2 * (o + 2)) (i := i (o + 1))
      (j := o + 1) parity (by simp [fillPending, take_interval, PendingReckoning.opened])
      fun l last => by have := above l last; omega
    have both : cutShortIntervals (o + 2) = [o, o + 1] := cutShortIntervals_of_two_le (by omega)
    simp only [cutShortOpened, both, List.map_cons, List.map_nil, State.takeInputs, first, empty, insertPending,
      Guarded.andThen, second]
    simp [insertPending, take_order, PendingReckoning.opened]
    rfl

/-- What a handover's inputs reach is the unit, the account, the queue and the outputs, the unit's notifications as
they were. -/
theorem takeInputs_frame {s : State} (parity : s.reckoning.lastParity = true) (account : s.account.parity = true)
    (order : Nat) (xs : List (Nat × ReckoningInput)) : ∃ u q acc out,
      s.takeInputs order xs = .done { s with reckoning := u, queue := q, account := acc, outputs := out } ∧
        u.inbox = s.reckoning.inbox := by
  obtain ⟨_, done, u, out, acc, q, rfl, inbox, -⟩ := takeInputs_done order xs parity account
  exact ⟨u, q, acc, out, done, inbox⟩

/-- A block that takes a jump and is then in `t` hands the unit its two inputs from ALIGNED and none from UNALIGNED. -/
theorem handover_of_taken {i : Instr} {s t : State} {o : Nat} {a : Alignment} {input : Nat → ReckoningInput}
    (taken : exec i s = .next (if a = .aligned then
      (t.takeInputs (2 * o) ((cutShortIntervals o).map fun j => (j, input j))).run else t))
    (parity : t.reckoning.lastParity = true) (account : t.account.parity = true) :
    (a = .unaligned → exec i s = .next t) ∧
    (a = .aligned → t.reckoning.pending = [] → (∀ l, t.reckoning.last = some l → l + 2 < o) →
      exec i s = .next (t.setReckoning { t.reckoning with pending := cutShortOpened o input })) ∧
    (a = .aligned → ∃ u q acc out,
      exec i s = .next { t with reckoning := u, queue := q, account := acc, outputs := out } ∧
      u.inbox = t.reckoning.inbox ∧
      t.takeInputs (2 * o) ((cutShortIntervals o).map fun j => (j, input j)) =
        .done { t with reckoning := u, queue := q, account := acc, outputs := out }) := by
  refine ⟨fun unaligned => ?_, fun aligned empty above => ?_, fun aligned => ?_⟩
  · rw [taken, if_neg (by simp [unaligned])]
  · rw [taken, if_pos aligned, takeInputs_cutShort input parity empty above]
    rfl
  · obtain ⟨u, q, acc, out, done, inbox⟩ := takeInputs_frame parity account (2 * o)
      ((cutShortIntervals o).map fun j => (j, input j))
    exact ⟨u, q, acc, out, by rw [taken, if_pos aligned, done]; rfl, inbox, done⟩

/-- Settles O14: at each of the four blocks the notification is taken; from ALIGNED the inputs of both intervals follow,
which open their pending reckonings where none stands in the way. -/
theorem jumpHandovers : Obligations.JumpHandovers := by
  intro s o n a rest opens powered parity account hopens
  refine ⟨fun m current inbox hm => ?_, fun v current inbox hv => ?_, fun p current inbox sound hp => ?_,
    fun current inbox => ?_⟩
  · obtain ⟨unaligned, opened, handed⟩ := handover_of_taken (i := .jumpRingHandover) (s := s) (t := s.setMeter m)
      (o := o) (a := a) (input := fun j => .own (s.meter.recordOf j)) (by
        simp only [exec, execJumpRingHandover, whenPowered_on powered]
        simp only [inbox, jumpFront, Delivery.front_current current, hm]) parity account
    refine ⟨unaligned, fun aligned ho => opened aligned (hopens.mp ho).1 (hopens.mp ho).2, fun aligned => ?_⟩
    obtain ⟨u, q, acc, out, done, -, taken⟩ := handed aligned
    exact ⟨u, q, acc, out, done, taken⟩
  · obtain ⟨unaligned, opened, handed⟩ := handover_of_taken (i := .supplyJumpHandover) (s := s)
      (t := s.setSupply v) (o := o) (a := a) (input := fun j => .supply (s.supply.recordOf j)) (by
        simp only [exec, execSupplyJumpHandover, whenPowered_on powered]
        simp only [inbox, jumpFront, Delivery.front_current current, hv]) parity account
    refine ⟨unaligned, fun aligned ho => opened aligned (hopens.mp ho).1 (hopens.mp ho).2, fun aligned => ?_⟩
    obtain ⟨u, q, acc, out, done, -, taken⟩ := handed aligned
    exact ⟨u, q, acc, out, done, taken⟩
  · obtain ⟨unaligned, opened, handed⟩ := handover_of_taken (i := .peerTableJump) (s := s) (t := s.setPeers p)
      (o := o) (a := a) (input := fun j => .list (listOf s.peers.entries j)) (by
        simp only [exec, execPeerTableJump, whenPowered_on powered]
        simp only [inbox, jumpFront, Delivery.front_current current, Peers.purge_sound sound, hp]) parity account
    refine ⟨unaligned, fun aligned ho => opened aligned (hopens.mp ho).1 (hopens.mp ho).2, fun aligned => ?_⟩
    obtain ⟨u, q, acc, out, done, -, taken⟩ := handed aligned
    exact ⟨u, q, acc, out, done, taken⟩
  · obtain ⟨unaligned, opened, handed⟩ := handover_of_taken (i := .cutShortInstruction) (s := s)
      (t := s.setReckoning { s.reckoning with inbox := rest }) (o := o) (a := a)
      (input := fun _ => .instruction .cutShort) (by
        rw [← takeInstructed_current (by exact current)]
        simp only [exec, execCutShortInstruction, whenPowered_on powered]
        simp [inbox]) parity account
    exact ⟨unaligned, fun aligned ho => opened aligned (hopens.mp ho).1 (hopens.mp ho).2, handed⟩

end Sys2Proof.Machine

/-! SUPPORT. The interval clock: the tick, the boundary, the listen window, the numbering and the jump (R16 to R32). -/

namespace Sys2Proof.Machine

open Sys2Proof.Safety

/-! ### The tick (R16, R48, R116, R121) -/

theorem State.sensePeriod_of_working {s : State} {w : Working} (h : s.store.working = some w) :
    s.sensePeriod = w.record.sensePeriod := by
  simp [State.sensePeriod, State.config, h]

theorem State.sensePeriod_of_fresh {s : State} (h : s.store.working = none) : s.sensePeriod = 10 := by
  simp [State.sensePeriod, State.config, h]

/-- The link's part in a tick, as an update. -/
theorem Link.tick_eq (k : Link) :
    k.tick = { k with elapsed := if k.schedule = [] then k.elapsed else k.elapsed + 1 } := by
  by_cases h : k.schedule = []
  · simp only [Link.tick, h, List.isEmpty_nil, if_true]
    rw [← h]
  · simp [Link.tick, h]

/-- Supply sense's part in a tick, by whether the period ends with it. -/
theorem Supply.tick_eq (u : Supply) (period : Nat) :
    u.tick period = if u.converter = .ready ∨ u.converter = .converting then
      if u.periodCount + 1 < period then { u with periodCount := u.periodCount + 1 }
      else { u with periodCount := 0, startDue := true }
    else u := by
  unfold Supply.tick
  split
  · by_cases h : period ≤ u.periodCount + 1
    · rw [if_pos h, if_neg (by omega)]
    · rw [if_neg h, if_pos (by omega)]
  · rfl

theorem Clock.tick_of_two_le {k : Clock} (h : 2 ≤ k.r) : k.tick = { k with
    r := k.r - 1, window := k.window.map (· - 1)
    candidate := k.candidate.map fun x => { x with elapsed := x.elapsed + 1 } } := by
  simp [Clock.tick, Clock.count, show ¬ k.r ≤ 1 by omega]

theorem Clock.tick_of_one {k : Clock} (h : k.r = 1) :
    k.tick = { k with expiryDue := true, window := k.window.map (· - 1) } := by
  simp [Clock.tick, h]

/-- A tick takes an outstanding expiry first and then counts. -/
theorem exec_oneSecondTick {s t : State} (powered : s.supervisor.powered = true)
    (ht : t = if s.clock.expiryDue then s.takeExpiry else s) :
    exec .oneSecondTick s =
      .next (((t.setClock t.clock.tick).setLink t.link.tick).setSupply (t.supply.tick t.sensePeriod)) := by
  simp only [exec, execOneSecondTick, whenPowered_on powered, ← ht]

/-- An outstanding expiry taken is outstanding no more. -/
@[simp] theorem takeExpiry_expiryDue (s : State) : s.takeExpiry.clock.expiryDue = false := by
  unfold State.takeExpiry State.takeBoundary State.spentInterval
  dsimp only
  repeat' split
  all_goals rfl

@[simp] theorem spentInterval_supervisor (s : State) (n : Nat) : (s.spentInterval n).supervisor = s.supervisor := by
  unfold State.spentInterval
  split <;> rfl

@[simp] theorem notify_supervisor (s : State) (n : Notice) (q : StoreNotice) :
    (s.notify n q).supervisor = s.supervisor := rfl

@[simp] theorem takeExpiry_supervisor (s : State) : s.takeExpiry.supervisor = s.supervisor := by
  unfold State.takeExpiry State.takeBoundary
  dsimp only
  split <;> simp

/-- Settles O15. -/
theorem tickCountsDown : Obligations.TickCountsDown := by
  refine ⟨fun s powered taken running => ?_, fun s t powered due boundary => ?_,
    fun s => ⟨fun w working => State.sensePeriod_of_working working, State.sensePeriod_of_fresh⟩⟩
  · refine ⟨s.clock.tick, ?_, Clock.tick_of_two_le, Clock.tick_of_one⟩
    rw [exec_oneSecondTick (t := s) powered (by simp [taken]), Link.tick_eq, Supply.tick_eq]
    rfl
  · simp only [exec, execBoundary, whenPowered_on powered, due, if_true] at boundary
    cases boundary
    rw [exec_oneSecondTick powered rfl, exec_oneSecondTick (by simpa using powered) rfl]
    simp [due]

/-! ### The boundary (R16, R17, R19) -/

theorem storedInterval_of_le {s : State} {n : Nat} (h : n ≤ 4294967295) : s.storedInterval n = n := if_pos h

theorem spentInterval_of_le {s : State} {n : Nat} (h : n ≤ 4294967295) : s.spentInterval n = s := if_pos h

/-- Settles O16. -/
theorem boundaryAdvancesAndNotifies : Obligations.BoundaryAdvancesAndNotifies := by
  refine ⟨⟨rfl, rfl, rfl, rfl, rfl⟩, fun s powered due last => ?_, fun s r below => ?_⟩
  · simp only [exec, execBoundary, whenPowered_on powered]
    simp [due, State.takeExpiry, last]
    rfl
  · have stored : s.clock.c + 1 ≤ 4294967295 := below
    simp only [State.takeBoundary, storedInterval_of_le stored, spentInterval_of_le stored]
    rfl

/-! ### The listen window (R21) -/

/-- Settles O17. -/
theorem listenWindowStartsAndExpires : Obligations.ListenWindowStartsAndExpires := by
  intro s powered
  refine ⟨fun due working unaligned => ?_, fun due fresh => ?_, fun expired => ?_⟩
  · obtain ⟨w, working⟩ := Option.ne_none_iff_exists'.mp working
    simp only [exec, execListenWindowStart, whenPowered_on powered]
    simp [due, State.config, working, unaligned]
    rfl
  · simp only [exec, execListenWindowStart, whenPowered_on powered]
    simp [due, State.config, fresh]
    rfl
  · simp only [exec, execListenWindowExpiry, whenPowered_on powered]
    simp [expired, isDue]
    rfl

/-! ### The numbering of a completed configuration write (R32) -/

/-- Settles O18. -/
theorem setNumberingTakesTheStart : Obligations.SetNumberingTakesTheStart := by
  intro s w powered working outstanding op
  have config : s.config = some w.record := by simp [State.config, working]
  have numbered : s.numberedC = (s.clock.numbered w.record false).c := by
    simp [State.numberedC, config, Clock.numbered]
  refine ⟨{ s.clock.numbered w.record false with epoch := s.store.completions, completionC := s.numberedC }, ?_,
    rfl, rfl, rfl, rfl, rfl, rfl, rfl, numbered, fun reached => ?_, fun above => ?_⟩
  · simp only [exec, execSetNumbering, whenPowered_on powered]
    simp [config, outstanding, op]
    rfl
  · simp [Clock.numbered, reached]
  · simp [Clock.numbered, show ¬ s.clock.c ≤ w.record.startInterval by omega]

/-! ### The jump (R22, R26 to R30) -/

/-- A position carried forward keeps its remaining value in 1..L and lies the elapsed seconds further on (R27). -/
theorem carryForward_spec {length ri : Nat} (ci elapsed : Nat) (hl : 0 < length) (high : ri ≤ length) :
    1 ≤ (carryForward length ci ri elapsed).2 ∧ (carryForward length ci ri elapsed).2 ≤ length ∧
      ((carryForward length ci ri elapsed).1 : Int) * length - (carryForward length ci ri elapsed).2 =
        (ci : Int) * length - ri + elapsed := by
  unfold carryForward
  split
  case isTrue within =>
    exact ⟨by dsimp only; omega, by dsimp only; omega, by dsimp only; omega⟩
  case isFalse beyond =>
    have whole := Nat.div_add_mod (elapsed - ri) length
    have part := Nat.mod_lt (elapsed - ri) hl
    generalize (elapsed - ri) / length = n at *
    have expand : (n + 1) * length = length * n + length := by ring
    have expandInt : ((ci + (n + 1) : Nat) : Int) * length = ci * length + ((length * n : Nat) : Int) + length := by
      push_cast
      ring
    dsimp only
    rw [expandInt, expand]
    omega

section
variable {s : State} {i : AlignmentInput} {c r : Nat}

theorem Clock.behindOf_iff {k : Clock} : k.behindOf c r = true ↔ k.c < c ∨ c = k.c ∧ r < k.r := by
  simp [Clock.behindOf]

/-- An aligned clock judges a lead above G FAR (R26). -/
theorem State.alignmentInput_far (hu : i.usable s.clock.length = true) (ha : s.clock.alignment = .aligned)
    (far : (s.guardSeconds : Int) < i.lead s.clock.length) :
    s.alignmentInput i = (.far, i.lead s.clock.length, s.farInput i) := by
  simp [State.alignmentInput, hu, ha, verdictOf_aligned_far (Int.natCast_nonneg _) far]

/-- An UNALIGNED clock judges a lead of -G or more IN-STEP (R28). -/
theorem State.alignmentInput_first (hu : i.usable s.clock.length = true) (ha : s.clock.alignment = .unaligned)
    (low : -(s.guardSeconds : Int) ≤ i.lead s.clock.length) :
    s.alignmentInput i = (.inStep, i.lead s.clock.length, s.firstInput i (i.lead s.clock.length)) := by
  simp [State.alignmentInput, State.inStepInput, hu, ha, verdictOf_unaligned_inStep low]

theorem addFarAhead_of_mem {ids : List Nat} {id : Nat} (h : id ∈ ids) : addFarAhead ids id = ids := if_pos h

theorem addFarAhead_of_not_mem {ids : List Nat} {id : Nat} (h : id ∉ ids) : addFarAhead ids id = ids ++ [id] :=
  if_neg h

theorem State.farInput_of_known (known : i.sender ∈ s.clock.farAhead) :
    s.farInput i = s.setClock { s.clock with candidate := some (s.clock.candidate.getD ⟨i.ci, i.ri, 0⟩) } := by
  simp [State.farInput, known, addFarAhead_of_mem known]

theorem State.farInput_of_room (new : i.sender ∉ s.clock.farAhead) (room : s.clock.farAhead.length < 2) :
    s.farInput i = s.setClock { s.clock with
      farAhead := s.clock.farAhead ++ [i.sender], candidate := some (s.clock.candidate.getD ⟨i.ci, i.ri, 0⟩) } := by
  simp [State.farInput, new, addFarAhead_of_not_mem new, jumpQuorum, show ¬ 2 ≤ s.clock.farAhead.length by omega]

/-- The third far-ahead sender decides the jump (R27). -/
theorem State.farInput_of_third (new : i.sender ∉ s.clock.farAhead) (two : s.clock.farAhead.length = 2) :
    s.farInput i = s.jumpOrClear (s.clock.candidate.getD ⟨i.ci, i.ri, 0⟩) := by
  simp [State.farInput, new, addFarAhead_of_not_mem new, two]

end

/-- Settles O20. -/
theorem jumpTargetAndJump : Obligations.JumpTargetAndJump := by
  refine ⟨fun length ci ri elapsed hl _ => carryForward_spec ci elapsed hl, fun s c r n inRange hn => ?jump, ?far,
    ?first, fun s w => State.guardSeconds_of_working⟩
  case jump =>
    simp only [State.jump, storedInterval_of_le inRange, spentInterval_of_le inRange, count16_eq_min, hn]
    rfl
  case far =>
    rintro s i _ x c r aligned mark low high rfl far hNone hSome target
    have usable : i.usable s.clock.length = true := AlignmentInput.usable_iff.mpr ⟨low, high, mark⟩
    have judged := State.alignmentInput_far usable aligned far
    have captured : s.clock.candidate.getD ⟨i.ci, i.ri, 0⟩ = x := by
      cases held : s.clock.candidate with
      | none => exact (hNone held).symm
      | some y => exact (hSome y held).symm
    refine ⟨fun known => ?_, fun new room => ?_, fun new two => ?_⟩
    · rw [judged, State.farInput_of_known known, captured]
      rfl
    · rw [judged, State.farInput_of_room new room, captured]
      rfl
    · have decided : s.alignmentInput i = (.far, i.lead s.clock.length,
          if s.clock.behindOf c r then s.jump c r
          else s.setClock { s.clock with farAhead := [], candidate := none }) := by
        rw [judged, State.farInput_of_third new two, captured, State.jumpOrClear]
        simp only [Clock.length, ← target]
      refine ⟨fun ahead => ?_, fun level => ?_⟩
      · rw [decided, if_pos (Clock.behindOf_iff.mpr ahead)]
        rfl
      · rw [decided, if_neg (mt Clock.behindOf_iff.mp level)]
        rfl
  case first =>
    rintro s t i _ unaligned mark low high rfl
    have usable : i.usable s.clock.length = true := AlignmentInput.usable_iff.mpr ⟨low, high, mark⟩
    refine ⟨State.alignmentInput_behind usable, fun notBehind jumps stays => ?_⟩
    rw [State.alignmentInput_first usable unaligned notBehind, State.firstInput]
    split
    case isTrue ahead =>
      rw [jumps ⟨ahead.1, Clock.behindOf_iff.mp ahead.2⟩]
      rfl
    case isFalse level =>
      rw [stays fun ahead => level ⟨ahead.1, Clock.behindOf_iff.mpr ahead.2⟩]
      rfl

end Sys2Proof.Machine

/-! SUPPORT. The carrier link: receiving, the copy schedule, sending, the renumbering and HOLD-UP (R36 to R56). -/

namespace Sys2Proof.Machine

open Sys2Proof.Safety

/-! ### Ends of a copy (R49 to R56) -/

section
variable {k : Link}

theorem Link.collide_of_echo (h : k.tx = .echo) :
    k.collide = { k.idle with counters := { k.counters with collisions := count16 k.counters.collisions } } := if_pos h

theorem Link.collide_of_ne (h : k.tx ≠ .echo) : k.collide = k := if_neg h

theorem Link.sent_of_echo (h : k.tx = .echo) :
    k.sent = { k.idle with counters := { k.counters with sent := count16 k.counters.sent } } := if_pos h

theorem Link.sent_of_ne (h : k.tx ≠ .echo) : k.sent = k := if_neg h

theorem Link.copyBusy_iff : k.copyBusy = true ↔ k.tx = .waiting ∨ k.tx = .sending ∨ k.tx = .echo := by
  simp [Link.copyBusy, or_assoc]

theorem Link.abandon_of_busy (h : k.tx = .waiting ∨ k.tx = .sending ∨ k.tx = .echo) : k.abandon = k.idle.missed :=
  if_pos (Link.copyBusy_iff.mpr h)

theorem Link.abandon_of_idle (h : k.tx = .idle) : k.abandon = k := by
  simp [Link.abandon, Link.copyBusy, h]

theorem Link.abandonWaiting_of_waiting (h : k.tx = .waiting) : k.abandonWaiting = k.idle.missed := if_pos h

theorem Link.abandonWaiting_of_ne (h : k.tx ≠ .waiting) : k.abandonWaiting = k := if_neg h

theorem Link.halted_eq_false (h : k.tx ≠ .suspended) : k.halted = false := by simp [Link.halted, h]

theorem Link.halted_eq_true (h : k.tx = .suspended) : k.halted = true := by simp [Link.halted, h]

end

/-! ### Receiving (R36 to R39) -/

section
variable {s : State} {b : Byte}

theorem exec_receivedByte_suspended (powered : s.supervisor.powered = true) (tx : s.link.tx = .suspended) :
    exec (.receivedByte b) s = .next s := by
  simp only [exec, execReceivedByte, whenPowered_on powered, Link.halted_eq_true tx, if_true]

theorem exec_receivedByte_hunt (powered : s.supervisor.powered = true) (tx : s.link.tx ≠ .suspended)
    (rx : s.link.rx = .hunt) : exec (.receivedByte b) s = .next (if b = 0xC3#8 then
      s.setLink { s.link with rx := .receiving, assembly := [b], stall := some stallMs } else s) := by
  simp [exec, execReceivedByte, whenPowered_on powered, Link.halted_eq_false tx, rx]

theorem exec_receivedByte_fault (powered : s.supervisor.powered = true) (rx : s.link.rx = .fault) :
    exec (.receivedByte b) s = .next s := by
  simp [exec, execReceivedByte, whenPowered_on powered, rx]

theorem exec_receivedByte_receiving (powered : s.supervisor.powered = true) (tx : s.link.tx ≠ .suspended)
    (rx : s.link.rx = .receiving) : exec (.receivedByte b) s = .next (s.setLink (s.link.receive b s.stamp)) := by
  simp [exec, execReceivedByte, whenPowered_on powered, Link.halted_eq_false tx, rx]

theorem exec_framingError_receiving (powered : s.supervisor.powered = true) (tx : s.link.tx ≠ .suspended)
    (rx : s.link.rx = .receiving) : exec .framingError s = .next (s.setLink s.link.checkFailure) := by
  simp [exec, execFramingError, whenPowered_on powered, Link.halted_eq_false tx, rx]

theorem exec_framingError_else (powered : s.supervisor.powered = true)
    (h : s.link.tx = .suspended ∨ s.link.rx ≠ .receiving) : exec .framingError s = .next s := by
  simp only [exec, execFramingError, whenPowered_on powered]
  rcases h with tx | rx
  · simp [Link.halted_eq_true tx]
  · simp [rx]

theorem exec_stallCheckExpiry_due (powered : s.supervisor.powered = true) (rx : s.link.rx = .receiving)
    (due : s.link.stall = some 0) : exec .stallCheckExpiry s = .next (s.setLink (Link.collide
      { s.link.hunt with counters := { s.link.counters with stalls := count16 s.link.counters.stalls } })) := by
  simp [exec, execStallCheckExpiry, whenPowered_on powered, rx, due, isDue]

end

section
variable {k : Link} {b : Byte} {stamp : Stamp}

/-- A length byte that is not 24 is a check failure (R38). -/
theorem Link.receive_bad_length (h : k.assembly = [0xC3#8]) (hb : b ≠ 24#8) : k.receive b stamp = k.checkFailure := by
  simp [Link.receive, h, hb]

/-- A byte that neither is a wrong length byte nor completes the frame joins it (R36, R39). -/
theorem Link.receive_joins (short : k.assembly.length < 27) (h : k.assembly.length ≠ 1 ∨ b = 24#8) :
    k.receive b stamp = { k with assembly := k.assembly ++ [b], stall := some 10 } := by
  have first : ¬ ((k.assembly ++ [b]).length = 2 ∧ b ≠ 24#8) := by
    rintro ⟨two, other⟩
    simp only [List.length_append, List.length_singleton] at two
    rcases h with len | rfl
    · omega
    · exact other rfl
  have incomplete : ¬ frameSize ≤ (k.assembly ++ [b]).length := by
    simp only [List.length_append, List.length_singleton, frameSize]
    omega
  unfold Link.receive
  dsimp only
  rw [if_neg first, if_neg incomplete]

theorem Link.checkFailure_of_ne (h : k.tx ≠ .echo) : k.checkFailure = { k.hunt with
    counters := { k.counters with checkFailures := count16 k.counters.checkFailures } } :=
  Link.collide_of_ne h

end

/-- Settles O21. -/
theorem receivedBytesAreAssembled : Obligations.ReceivedBytesAreAssembled := by
  refine ⟨fun s powered tx => ⟨fun rx => ?_, fun rx b other => ?_, fun rx => ?_, fun rx => ⟨fun b => ?_, ?_⟩⟩,
    fun s powered tx => ⟨fun b => ?_, ?_⟩, fun s powered tx rx => ⟨fun assembly => ?_, fun b low high => ?_⟩,
    fun s powered echo tx rx => ⟨fun b assembly other => ?_, ?_, fun due => ?_⟩⟩
  · rw [exec_receivedByte_hunt powered tx rx]
    rfl
  · rw [exec_receivedByte_hunt powered tx rx, if_neg other]
  · exact exec_framingError_else powered (.inr (by simp [rx]))
  · exact exec_receivedByte_fault powered rx
  · exact exec_framingError_else powered (.inr (by simp [rx]))
  · exact exec_receivedByte_suspended powered tx
  · exact exec_framingError_else powered (.inl tx)
  · rw [exec_receivedByte_receiving powered tx rx, Link.receive_joins (by simp [assembly]) (.inr rfl), assembly]
    rfl
  · rw [exec_receivedByte_receiving powered tx rx, Link.receive_joins high (.inl (by omega))]
    rfl
  · rw [exec_receivedByte_receiving powered tx rx, Link.receive_bad_length assembly other,
      Link.checkFailure_of_ne echo, count16_eq_min]
    rfl
  · rw [exec_framingError_receiving powered tx rx, Link.checkFailure_of_ne echo, count16_eq_min]
    rfl
  · rw [exec_stallCheckExpiry_due powered rx due, Link.collide_of_ne (by exact echo), count16_eq_min]
    rfl

/-! ### A frame completed (R36, R42 to R46, R52) -/

/-- The 28th byte completes the frame, which is decided by its check and the echo comparison. -/
theorem Link.receive_completes {k : Link} {content : List Byte} {b1 b2 : Byte} (size : content.length = 24)
    (assembly : k.assembly = 0xC3#8 :: 24#8 :: (content ++ [b1])) (stamp : Stamp) :
    k.receive b2 stamp = if [b1, b2] = checkBytes content then
      if k.echoReference = some (frameBytes content) then k.hunt.sent else k.hunt.collide.enqueue content stamp
    else k.checkFailure := by
  have frame : k.assembly ++ [b2] = 0xC3#8 :: 24#8 :: (content ++ [b1, b2]) := by simp [assembly]
  have check : (k.assembly ++ [b2]).drop 26 = [b1, b2] := by
    rw [frame]
    exact List.drop_left' size
  have contents : contentOf (k.assembly ++ [b2]) = content := by
    rw [frame]
    exact List.take_left' size
  have whole : frameSize ≤ (k.assembly ++ [b2]).length := by simp [frame, size, frameSize]
  unfold Link.receive Link.complete
  dsimp only
  rw [if_neg (by simp [frame, size]), if_pos whole, check, contents]
  by_cases good : [b1, b2] = checkBytes content
  · have own : k.assembly ++ [b2] = frameBytes content := by rw [frame, good]; rfl
    simp [good, own]
  · simp [good]

theorem Link.enqueue_room {k : Link} (room : k.queue.length < 8) (content : List Byte) (stamp : Stamp) :
    k.enqueue content stamp = { k with
      queue := k.queue ++ [⟨content, stamp, false⟩]
      counters := { k.counters with good := min 65535 (k.counters.good + 1) } } := by
  rw [Link.enqueue, if_pos room, count16_eq_min]

theorem Link.enqueue_full {k : Link} (full : 8 ≤ k.queue.length) (content : List Byte) (stamp : Stamp) :
    k.enqueue content stamp = { k with
      counters := { k.counters with overruns := min 65535 (k.counters.overruns + 1) } } := by
  rw [Link.enqueue, if_neg (by exact not_lt.mpr full), count16_eq_min]

/-- The stamp is the position the rules give, in the numbering of the clock's jumps and of the completed writes. -/
theorem stamp_eq {s : State} {c r : Nat} (h : StampPosition s c r) :
    s.stamp = ⟨c, r, s.clock.jumps, s.store.completions⟩ := by
  obtain ⟨current, renumbered⟩ := h
  unfold State.stamp State.stampClock
  cases working : s.store.working with
  | none =>
    obtain ⟨rfl, rfl⟩ := current (.inr working)
    simp [State.config, working]
  | some w =>
    simp only [State.config, working, Option.map_some]
    by_cases outstanding : s.clock.epoch < s.store.completions
    · obtain ⟨reached, above⟩ := renumbered w working outstanding
      by_cases h : s.clock.c ≤ w.record.startInterval
      · obtain ⟨rfl, rfl⟩ := reached h
        simp [State.completionDue, outstanding, Clock.numbered, h]
      · obtain ⟨rfl, rfl⟩ := above (not_le.mp h)
        simp [State.completionDue, outstanding, Clock.numbered, h]
    · obtain ⟨rfl, rfl⟩ := current (.inl (not_lt.mp outstanding))
      simp [State.completionDue, outstanding]

/-- Settles O22. -/
theorem goodFrameIsStampedAndQueued : Obligations.GoodFrameIsStampedAndQueued := by
  intro s content b1 b2 powered echo tx rx size assembly
  have taken : exec (.receivedByte b2) s = .next (s.setLink (s.link.receive b2 s.stamp)) :=
    exec_receivedByte_receiving powered tx rx
  rw [Link.receive_completes size assembly] at taken
  refine ⟨fun good other => ⟨fun c r position room => ?_, fun full => ?_⟩, fun good own => ?_, fun bad => ?_⟩
  · rw [taken, if_pos good, if_neg other, Link.collide_of_ne (k := s.link.hunt) echo, Link.enqueue_room (by exact room),
      stamp_eq position]
    rfl
  · rw [taken, if_pos good, if_neg other, Link.collide_of_ne (k := s.link.hunt) echo, Link.enqueue_full (by exact full)]
    rfl
  · rw [taken, if_pos good, if_pos own, Link.sent_of_ne (k := s.link.hunt) echo]
    rfl
  · rw [taken, if_neg bad, Link.checkFailure_of_ne echo, count16_eq_min]
    rfl

theorem Link.checkFailure_of_echo {k : Link} (h : k.tx = .echo) : k.checkFailure = { k.hunt.idle with
    counters := { k.counters with
      collisions := min 65535 (k.counters.collisions + 1)
      checkFailures := min 65535 (k.counters.checkFailures + 1) } } := by
  rw [Link.checkFailure, Link.collide_of_echo (by exact h), count16_eq_min, count16_eq_min]
  rfl

/-- Settles O23: what ends first in ECHO decides the copy. -/
theorem ownEchoDecidesTheCopySent : Obligations.OwnEchoDecidesTheCopySent := by
  refine ⟨fun s content b1 b2 powered echo rx size assembly => ?frame, fun s powered echo rx => ?other⟩
  case frame =>
    have taken : exec (.receivedByte b2) s = .next (s.setLink (s.link.receive b2 s.stamp)) :=
      exec_receivedByte_receiving powered (by simp [echo]) rx
    rw [Link.receive_completes size assembly] at taken
    refine ⟨fun good own => ?_, fun c r good foreign room position => ?_, fun good foreign full => ?_, fun bad => ?_⟩
    · rw [taken, if_pos good, if_pos own, Link.sent_of_echo (k := s.link.hunt) echo, count16_eq_min]
      rfl
    · rw [taken, if_pos good, if_neg foreign, Link.collide_of_echo (k := s.link.hunt) echo, count16_eq_min,
        Link.enqueue_room (by exact room), stamp_eq position]
      rfl
    · rw [taken, if_pos good, if_neg foreign, Link.collide_of_echo (k := s.link.hunt) echo, count16_eq_min,
        Link.enqueue_full (by exact full)]
      rfl
    · rw [taken, if_neg bad, Link.checkFailure_of_echo echo]
      rfl
  case other =>
    refine ⟨fun b assembly wrong => ?_, ?_, fun due => ?_⟩
    · rw [exec_receivedByte_receiving powered (by simp [echo]) rx, Link.receive_bad_length assembly wrong,
        Link.checkFailure_of_echo echo]
      rfl
    · rw [exec_framingError_receiving powered (by simp [echo]) rx, Link.checkFailure_of_echo echo]
      rfl
    · rw [exec_stallCheckExpiry_due powered rx due, Link.collide_of_echo (by exact echo), count16_eq_min,
        count16_eq_min]
      rfl

/-! ### Breaks (R40, R41, R55) -/

theorem exec_rxdBreak_due {s : State} (powered : s.supervisor.powered = true) (due : s.link.breakTimer = some 0) :
    exec .rxdBreak s = .next (s.setLink (Link.abandon { s.link.hunt with
      rx := .fault, breakTimer := none
      counters := { s.link.counters with breaks := min 65535 (s.link.counters.breaks + 1) } })) := by
  simp only [exec, execRxdBreak, whenPowered_on powered]
  simp [due, isDue, count16_eq_min, Link.hunt]

/-- Settles O24. -/
theorem breakAndTheLineEdges : Obligations.BreakAndTheLineEdges := by
  intro s powered
  refine ⟨fun rxd rx tx => ?_, fun due tx => ?_, fun due tx => ?_, fun rx => ?_⟩
  · simp only [exec, execRxdFallingEdge]
    simp [rxd, powered, rx, Link.halted_eq_false tx]
    rfl
  · rw [exec_rxdBreak_due powered due, Link.abandon_of_idle (by exact tx)]
    rfl
  · rw [exec_rxdBreak_due powered due, Link.abandon_of_busy (by exact tx), Link.missed, count16_eq_min]
    rfl
  · simp only [exec, execRxdRisingEdge]
    simp [rx]
    rfl

/-! ### The copy schedule (R47, R48, R53) -/

theorem intervalLength_ge (code : Nat) : 300 ≤ intervalLength code := by
  unfold intervalLength
  split <;> decide

/-- Settles O25: the sub-span is at least one second wide, so the scrambled part stays below it; the last sub-span ends
at 0.8 x L. -/
theorem dueOffsetLiesInItsSubSpan : Obligations.DueOffsetLiesInItsSubSpan := by
  intro code copies id c j two four within length w
  have long : 300 ≤ length := intervalLength_ge code
  have offset : dueOffset length copies id c j = 5 + j * w + scramble id c j % w := rfl
  have wide : 0 < w := Nat.div_pos (by omega) (by omega)
  have part : scramble id c j % w < w := Nat.mod_lt _ wide
  have next : (j + 1) * w = j * w + w := by ring
  have inside : (j + 1) * w ≤ 8 * length / 10 - 5 :=
    calc (j + 1) * w ≤ copies * w := Nat.mul_le_mul_right _ within
      _ ≤ 8 * length / 10 - 5 := Nat.mul_div_le _ _
  exact ⟨rfl, by omega, by omega, by omega⟩

/-- The old schedule settled: removed uncounted, a copy in WAITING abandoned (R53). -/
theorem Link.settleSchedule_of_ne {k : Link} (h : k.tx ≠ .waiting) :
    k.settleSchedule = { k with schedule := [], awaiting := none } := by
  rw [Link.settleSchedule, Link.abandonWaiting_of_ne h]

theorem Link.settleSchedule_of_waiting {k : Link} (h : k.tx = .waiting) :
    k.settleSchedule = { k.idle.missed with schedule := [], awaiting := none } := by
  rw [Link.settleSchedule, Link.abandonWaiting_of_waiting h]

/-- Settling the schedule leaves a transmit side that is SUSPENDED so, and makes none so. -/
theorem Link.settleSchedule_tx_suspended {k : Link} : k.settleSchedule.tx = .suspended ↔ k.tx = .suspended := by
  by_cases h : k.tx = .waiting
  · simp [Link.settleSchedule_of_waiting h, h, Link.idle, Link.missed]
  · simp [Link.settleSchedule_of_ne h]

section
variable {s : State} {k n : Nat}

theorem boundaryAwaits_iff {m : Meter} :
    m.boundaryAwaits k = true ↔ ∃ n b e, Notice.boundary k n b e ∈ m.inbox := by
  simp only [Meter.boundaryAwaits, List.any_eq_true]
  constructor
  · rintro ⟨notice, inbox, h⟩
    cases notice with
    | boundary j n b e =>
      obtain rfl := eq_of_beq h
      exact ⟨n, b, e, inbox⟩
    | jump o n b e => cases h
  · rintro ⟨n, b, e, inbox⟩
    exact ⟨_, inbox, by simp⟩

/-- A boundary that the link takes settles the old schedule, and from ALIGNED builds the new one or waits for the meter
input block (R47, R53). -/
theorem exec_copyScheduleBuild {a : Alignment} {rest : List Notice} {settled : Link}
    (powered : s.supervisor.powered = true) (current : s.store.completions ≤ s.link.epoch)
    (inbox : s.link.inbox = .boundary k n a s.link.epoch :: rest)
    (hs : settled = { s.link.settleSchedule with inbox := rest }) :
    exec .copyScheduleBuild s = .next (if a = .aligned then
      if s.meter.boundaryAwaits k then s.setLink { settled with awaiting := some k }
      else (s.setLink settled).buildSchedule k n
      else s.setLink settled) := by
  simp only [exec, execCopyScheduleBuild, whenPowered_on powered]
  simp only [inbox, boundaryFront, Delivery.front_current current, hs]
  rfl

end

/-- Settles O26: the settled link is the one both cases of the transmit state describe; the rest goes by the branches of
the build. -/
theorem scheduleIsBuiltAtAlignedBoundaries : Obligations.ScheduleIsBuiltAtAlignedBoundaries := by
  intro s k n rest settled powered current still waiting
  have hs : settled = { s.link.settleSchedule with inbox := rest } := by
    by_cases tx : s.link.tx = .waiting
    · rw [waiting tx, Link.settleSchedule_of_waiting tx, Link.missed, count16_eq_min]
      rfl
    · rw [still tx, Link.settleSchedule_of_ne tx]
  have suspended : settled.tx = .suspended ↔ s.link.tx = .suspended := by
    rw [hs]
    exact Link.settleSchedule_tx_suspended
  refine ⟨fun x w inbox taken op tx held working => ?build, fun m b e inbox awaited => ?wait,
    fun inbox unawaited no => ?none, fun inbox => ?unaligned⟩
  case build =>
    have built : exec .copyScheduleBuild s = .next ((s.setLink settled).buildSchedule k n) := by
      rw [exec_copyScheduleBuild powered current inbox hs, if_pos rfl, if_neg (by simp [boundaryAwaits_iff, taken])]
    rw [buildSchedule_of_record (s := s.setLink settled) op (by exact mt suspended.mp tx) working held] at built
    refine ⟨fun parity => ?_, fun parity idle => ?_⟩
    · rw [built, State.setLink_meter, parity, guarded_true]
      rfl
    · rw [State.setLink_meter, parity, guarded_false] at built
      have reset := parityReset_of_idle (s := s.setLink settled) idle
      exact ⟨_, built, reset.op, reset.last, reset.leaves.transmit.2.1⟩
  case wait =>
    rw [exec_copyScheduleBuild powered current inbox hs, if_pos rfl, if_pos (boundaryAwaits_iff.mpr ⟨m, b, e, awaited⟩)]
    rfl
  case none =>
    rw [exec_copyScheduleBuild powered current inbox hs, if_pos rfl,
      if_neg (by rw [boundaryAwaits_iff]; exact fun ⟨m, b, e, h⟩ => unawaited m b e h)]
    refine congrArg Host.Outcome.next ?_
    rcases no with op | tx | unheld
    · exact buildSchedule_eq_self (s := s.setLink settled) (.inl op)
    · exact buildSchedule_eq_self (s := s.setLink settled) (.inr (.inl (suspended.mpr tx)))
    · exact buildSchedule_of_no_record (s := s.setLink settled) unheld
  case unaligned =>
    rw [exec_copyScheduleBuild powered current inbox hs, if_neg (by decide)]
    rfl

/-! ### Sending a copy (R49 to R52) -/

section
variable {s : State} {mark : CopyMark}

/-- With no record of c - 1 held, or no configuration, the copy is missed (R51). -/
theorem enterSending_missed
    (h : s.clock.c = 0 ∨ s.store.working = none ∨ ∀ y ∈ s.meter.ring, y.interval ≠ s.clock.c - 1) :
    s.enterSending mark = s.setLink s.link.idle.missed := by
  unfold State.enterSending
  split
  case h_1 own g held config =>
    rcases h with zero | fresh | unheld
    · rw [if_neg (by omega)]
    · simp [State.config, fresh] at config
    · refine absurd (List.mem_of_find?_eq_some held) fun inRing => unheld own inRing ?_
      simpa using List.find?_some held
  case h_2 => rfl

section
variable {own : OwnRecord} {w : Working} (later : 1 ≤ s.clock.c) (working : s.store.working = some w)
  (held : s.meter.recordOf (s.clock.c - 1) = some own)
include later working held

/-- The frame that is sent is built from the record of c - 1 and what supply sense holds of that interval (R51). -/
theorem enterSending_sends (parity : s.meter.snapshotParity = true) :
    ∃ frame, s.enterSending mark = s.setLink { s.link with
        tx := .sending, copy := some mark, deferLimit := none, echoReference := some frame } ∧
      (s.supply.recordOf (s.clock.c - 1) = none →
        frame = frameBytes (frameContent w.record s.clock.c s.clock.r own .grid true mark)) ∧
      (∀ y, s.supply.recordOf (s.clock.c - 1) = some y →
        frame = frameBytes (frameContent w.record s.clock.c s.clock.r own y.state (y.source == .held) mark)) := by
  refine ⟨frameBytes (frameContent w.record s.clock.c s.clock.r own (frameSupply (s.supply.recordOf (s.clock.c - 1))).1
    (frameSupply (s.supply.recordOf (s.clock.c - 1))).2 mark), ?_, fun unheld => ?_, fun y supply => ?_⟩
  · simp only [State.enterSending, held, State.config, working, Option.map_some, later, parity, if_true]
  · simp [unheld, frameSupply]
  · simp [supply, frameSupply]

/-- With the snapshot's parity failed nothing is handed over and a PARITY reset follows (R6). -/
theorem enterSending_fails (parity : s.meter.snapshotParity = false) :
    s.enterSending mark = (s.setLink s.link.idle.missed).parityFault := by
  simp [State.enterSending, held, State.config, working, later, parity]

end

theorem exec_copyDue_busy {x : ScheduledCopy} {rest : List ScheduledCopy} (powered : s.supervisor.powered = true)
    (schedule : s.link.schedule = x :: rest) (due : x.offset = s.link.elapsed)
    (h : ¬ (s.link.tx = .idle ∧ s.link.rx ≠ .fault)) :
    exec .copyDue s = .next (s.setLink (Link.missed { s.link with schedule := rest })) := by
  simp only [exec, execCopyDue, whenPowered_on powered, schedule, due, le_refl, if_true]
  rw [if_neg (by exact h)]
  rfl

theorem exec_copyDue_free {x : ScheduledCopy} {rest : List ScheduledCopy} {t : State}
    (powered : s.supervisor.powered = true) (schedule : s.link.schedule = x :: rest) (due : x.offset = s.link.elapsed)
    (tx : s.link.tx = .idle) (rx : s.link.rx ≠ .fault) (ht : t = s.setLink { s.link with
      schedule := rest, tx := .waiting, req := true, copy := some ⟨s.link.scheduleCount, x.index⟩
      deferLimit := some 20000 }) :
    exec .copyDue s =
      .next (if s.pins.clr then t.enterSending ⟨s.link.scheduleCount, x.index⟩ else t) := by
  simp only [exec, execCopyDue, whenPowered_on powered, schedule, due, le_refl, if_true]
  rw [if_pos (by exact ⟨tx, rx⟩), ht]
  rfl

end

/-- Settles O27. -/
theorem copyDueWaitsOrIsMissed : Obligations.CopyDueWaitsOrIsMissed := by
  refine ⟨fun s x rest powered schedule due tx => ⟨fun rx clr => ?_, fun own w rx clr later working held parity => ?_,
    fun rx clr no => ?_, fun own rx clr later working held parity idle => ?_, fun rx => ?_⟩,
    fun s x rest powered schedule due tx => ?_⟩
  · rw [exec_copyDue_free powered schedule due tx rx rfl, clr]
    rfl
  · rw [exec_copyDue_free powered schedule due tx rx rfl, if_pos clr]
    obtain ⟨frame, sent, unheld, supply⟩ := enterSending_sends (mark := ⟨s.link.scheduleCount, x.index⟩)
      (s := s.setLink { s.link with
        schedule := rest, tx := .waiting, req := true, copy := some ⟨s.link.scheduleCount, x.index⟩
        deferLimit := some 20000 }) later working held parity
    exact ⟨frame, congrArg Host.Outcome.next sent, unheld, supply⟩
  · rw [exec_copyDue_free powered schedule due tx rx rfl, if_pos clr, enterSending_missed (by exact no), Link.missed,
      count16_eq_min]
    rfl
  · obtain ⟨w, working⟩ := Option.ne_none_iff_exists'.mp working
    rw [exec_copyDue_free powered schedule due tx rx rfl, if_pos clr,
      enterSending_fails (by exact later) (by exact working) (by exact held) (by exact parity)]
    have reset := parityReset_of_idle (s := s.setLink (Link.missed (Link.idle { s.link with
        schedule := rest, tx := .waiting, req := true, copy := some ⟨s.link.scheduleCount, x.index⟩
        deferLimit := some 20000 }))) idle
    exact ⟨_, rfl, reset.op, reset.last, reset.leaves.transmit.2.2.2.1⟩
  · rw [exec_copyDue_busy powered schedule due (by simp [rx]), Link.missed, count16_eq_min]
    rfl
  · rw [exec_copyDue_busy powered schedule due (by rcases tx with tx | tx | tx <;> simp [tx]), Link.missed,
      count16_eq_min]
    rfl

theorem exec_clrAsserted_waiting {s : State} {mark : CopyMark} (tx : s.link.tx = .waiting)
    (copy : s.link.copy = some mark) :
    exec (.clrAsserted true) s = .next ((s.setPins { s.pins with clr := true }).enterSending mark) := by
  simp [exec, execClrAsserted, copy, tx]

/-- Settles O28. -/
theorem clrStartsTheSending : Obligations.ClrStartsTheSending := by
  refine ⟨fun s mark powered tx copy no => ?_, fun s mark own w powered tx copy later working held =>
    ⟨fun parity => ?_, fun parity idle => ?_⟩⟩
  · rw [exec_clrAsserted_waiting tx copy, enterSending_missed (by exact no), Link.missed, count16_eq_min]
    rfl
  · rw [exec_clrAsserted_waiting tx copy]
    obtain ⟨frame, sent, unheld, supply⟩ := enterSending_sends (mark := mark)
      (s := s.setPins { s.pins with clr := true }) later working held parity
    exact ⟨frame, congrArg Host.Outcome.next sent, unheld, supply⟩
  · have failed := enterSending_fails (mark := mark) (s := s.setPins { s.pins with clr := true }) later working held
      parity
    have reset := parityReset_of_idle
      (s := (s.setPins { s.pins with clr := true }).setLink s.link.idle.missed) idle
    exact ⟨_, (exec_clrAsserted_waiting tx copy).trans (congrArg Host.Outcome.next failed), reset.op, reset.last,
      reset.leaves.transmit.2.2.2.1⟩

/-- Settles O29. -/
theorem copyTimers : Obligations.CopyTimers := by
  intro s powered
  refine ⟨fun tx due => ?_, fun tx => ?_, fun tx due => ?_⟩
  · simp only [exec, execDeferLimitExpiry, whenPowered_on powered]
    simp [tx, due, isDue, Link.missed, count16_eq_min]
    rfl
  · simp only [exec, execLastByteSent, whenPowered_on powered]
    simp [tx]
    rfl
  · simp only [exec, execEchoWindowExpiry, whenPowered_on powered]
    simp [due, isDue, Link.collide_of_echo tx, count16_eq_min]
    rfl

/-! ### Renumbering and HOLD-UP (R31, R46, R54, R56) -/

/-- Settles O30: the link that goes on is the one both cases of the transmit state describe. -/
theorem renumberingMarksTheQueue : Obligations.RenumberingMarksTheQueue := by
  intro s k powered still waiting
  have hk : k = s.link.abandonWaiting := by
    by_cases tx : s.link.tx = .waiting
    · rw [waiting tx, Link.abandonWaiting_of_waiting tx, Link.missed, count16_eq_min]
      rfl
    · rw [still tx, Link.abandonWaiting_of_ne tx]
  refine ⟨fun o n a rest current inbox => ?_, fun outstanding => ?_,
    fun j n a e rest old => ⟨fun inbox => ?_, fun inbox => ?_⟩, rfl, fun o n a e ns => ⟨?_, ?_⟩⟩
  · simp only [exec, execPreJumpMark, whenPowered_on powered]
    simp only [inbox, jumpFront, Delivery.front_current current, hk]
    rfl
  · simp only [exec, execLinkConfigurationWrite, whenPowered_on powered]
    rw [if_pos (completionDue_iff.mpr outstanding), hk]
    rfl
  · simp only [exec, execCopyScheduleBuild, whenPowered_on powered]
    simp only [inbox, boundaryFront, Delivery.front_old old]
    rfl
  · simp only [exec, execPreJumpMark, whenPowered_on powered]
    simp only [inbox, jumpFront, Delivery.front_old old]
    rfl
  · simp [jumpsIn]
  · simp [jumpsIn]

/-- Settles O31. -/
theorem linkInHoldUp : Obligations.LinkInHoldUp := by
  intro s rest powered
  refine ⟨fun power => ⟨{ s.link.abandon.idle.hunt with
      tx := .suspended, schedule := [], awaiting := none, breakTimer := none, power := rest }, ?_, rfl, rfl, rfl, rfl,
      rfl, ?_, ?_, fun busy => ?_, fun idle => ?_⟩, fun power => ?_⟩
  · simp only [exec, execLinkHoldUpEntry, whenPowered_on powered, power]
    rfl
  · unfold Link.abandon
    split <;> rfl
  · unfold Link.abandon
    split <;> rfl
  · rw [Link.abandon_of_busy busy, Link.missed, count16_eq_min]
    rfl
  · rw [Link.abandon_of_idle idle]
    rfl
  · simp only [exec, execLinkHoldUpExit, whenPowered_on powered, power]
    rfl

end Sys2Proof.Machine

/-! SUPPORT. The peer table: the identity of a frame, the lookup of its sender, its verdict and its figures (R61 to
R76). -/

namespace Sys2Proof.Machine

open Sys2Proof.Safety

/-! ### Identity (R65, R66, R190) -/

section
variable {s : State} {x : QueueEntry} {rest : List QueueEntry}

theorem exec_frameTake (powered : s.supervisor.powered = true) (taking : s.peers.taking = true)
    (queue : s.link.queue = x :: rest) :
    exec .frameTake s = .next ((s.setLink { s.link with queue := rest }).takeFrame x) := by
  simp only [exec, execFrameTake, whenPowered_on powered, queue, taking, if_true]

theorem identityOf_foreign {g : Option Configuration} {f : Frame}
    (h : ∀ c, g = some c →
      f.cooperative ≠ c.cooperative ∨ f.lengthCode ≠ c.lengthCode ∨ f.sender = 0 ∨ 250 < f.sender) :
    identityOf g f = .foreign := by
  cases g with
  | none => rfl
  | some c => exact if_pos (h c rfl)

theorem identityOf_member {g : Configuration} {f : Frame} (cooperative : f.cooperative = g.cooperative)
    (code : f.lengthCode = g.lengthCode) (low : 1 ≤ f.sender) (high : f.sender ≤ 250) :
    identityOf (some g) f = if f.sender = g.nodeId then .duplicate else .peer := by
  refine if_neg ?_
  rintro (h | h | h | h)
  · exact h cooperative
  · exact h code
  · omega
  · omega

/-- Settles O32. -/
theorem foreignAndDuplicateFrames : Obligations.ForeignAndDuplicateFrames := by
  intro s x rest powered taking queue
  refine ⟨fun foreign => ?_, fun w working cooperative code own low high => ?_⟩
  · have identity : identityOf (s.store.working.map (·.record)) (Frame.ofContent x.content) = .foreign := by
      refine identityOf_foreign fun c config => ?_
      obtain ⟨w, working, rfl⟩ := Option.map_eq_some_iff.mp config
      exact foreign w working
    rw [exec_frameTake powered taking queue, State.takeFrame]
    simp only [State.config, State.setLink_store, identity, count16_eq_min]
    rfl
  · have identity : identityOf (some w.record) (Frame.ofContent x.content) = .duplicate := by
      rw [identityOf_member cooperative code (own ▸ low) (own ▸ high), if_pos own]
    rw [exec_frameTake powered taking queue, State.takeFrame]
    simp only [State.config, State.setLink_store, working, Option.map_some, identity, count16_eq_min]
    rfl

/-- A peer's frame reaches the table. -/
theorem exec_frameTake_peer {f : Frame} (h : PeerFrameWaits s x rest f) :
    exec .frameTake s = .next ((s.setLink { s.link with queue := rest }).takePeerFrame x f) := by
  obtain ⟨powered, taking, queue, rfl, ⟨w, working, cooperative, code, other⟩, low, high⟩ := h
  rw [exec_frameTake powered taking queue, State.takeFrame]
  simp only [State.config, State.setLink_store, working, Option.map_some, identityOf_member cooperative code low high,
    if_neg other]

end

/-! ### The parity of the entries and the lookup (R64, R67, R68) -/

section
variable {p : Peers}

/-- With every entry that is read sound, a read frees none and counts none. -/
theorem purge_of_sound {reads : Entry → Bool} (h : ∀ e ∈ p.entries, reads e = true → e.parity = true) :
    p.purge reads = p := by
  have kept : p.entries.filter (fun e => e.parity || !reads e) = p.entries := by
    rw [List.filter_eq_self]
    intro e he
    by_cases read : reads e = true
    · simp [h e he read]
    · simp [read]
  have uncounted : p.entries.countP (fun e => !e.parity && reads e) = 0 := by
    rw [List.countP_eq_zero]
    intro e he
    by_cases read : reads e = true
    · simp [h e he read]
    · simp [read]
  simp only [Peers.purge, kept, uncounted, TableCounters.discards, if_true]

/-- Where an entry that is read fails its parity, the failing ones are freed and counted. -/
theorem purge_of_unsound {reads : Entry → Bool} (h : ∃ e ∈ p.entries, reads e = true ∧ e.parity = false) :
    p.purge reads = { p with
      entries := p.entries.filter fun e => e.parity || !reads e
      counters := { p.counters with
        parityDiscards :=
          min 65535 (p.counters.parityDiscards + p.entries.countP fun e => !e.parity && reads e) } } := by
  have counted : p.entries.countP (fun e => !e.parity && reads e) ≠ 0 := by
    obtain ⟨e, he, read, unsound⟩ := h
    exact (List.countP_pos_iff.mpr ⟨e, he, by simp [read, unsound]⟩).ne'
  rw [Peers.purge, TableCounters.discards, if_neg counted]
  rfl

/-- The lookup by what a sound table holds of the id. -/
theorem lookup_of_purged {id : Nat} {q : Peers} (h : p.purge (fun e => e.id == id) = q) :
    p.lookup id = match q.entries.find? (fun e => e.id == id) with
      | some e => (some e, q)
      | none =>
        if q.entries.length < 48 then (some (.created id), q)
        else match q.makePlace with
          | some r => (some (.created id), r)
          | none => (none, { q with counters := { q.counters with tableFull := count16 q.counters.tableFull } }) := by
  rw [← h]
  rfl

theorem find?_id_eq_none {id : Nat} (h : ∀ y ∈ p.entries, y.id ≠ id) :
    p.entries.find? (fun y => y.id == id) = none :=
  List.find?_eq_none.mpr fun y hy => by simpa using h y hy

/-- The sender's entry, if it is sound. -/
theorem lookup_held {id : Nat} {e : Entry} (held : p.entries.find? (fun y => y.id == id) = some e)
    (sound : ∀ y ∈ p.entries, y.id = id → y.parity = true) : p.lookup id = (some e, p) := by
  rw [lookup_of_purged (purge_of_sound fun y hy read => sound y hy (by simpa using read)), held]

/-- A sender's entry that fails its parity is freed, and a new one made. -/
theorem lookup_unsound {id : Nat} (held : ∃ y ∈ p.entries, y.id = id)
    (unsound : ∀ y ∈ p.entries, y.id = id → y.parity = false) (size : p.entries.length ≤ 48) :
    p.lookup id = (some (.created id), { p with
      entries := p.entries.filter (fun y => y.id != id)
      counters := { p.counters with
        parityDiscards := min 65535 (p.counters.parityDiscards + p.entries.countP (fun y => y.id == id)) } }) := by
  obtain ⟨e, he, hid⟩ := held
  have kept : p.entries.filter (fun y => y.parity || !(y.id == id)) = p.entries.filter (fun y => y.id != id) := by
    refine List.filter_congr fun y hy => ?_
    by_cases same : y.id = id
    · simp [same, unsound y hy same]
    · simp [bne, beq_eq_false_iff_ne.mpr same]
  have counted : p.entries.countP (fun y => !y.parity && (y.id == id)) = p.entries.countP (fun y => y.id == id) := by
    refine List.countP_congr fun y hy => ?_
    by_cases same : y.id = id
    · simp [same, unsound y hy same]
    · simp [same]
  have room : (p.entries.filter fun y => y.id != id).length < 48 :=
    (filter_length_lt he (by simp [hid])).trans_le size
  have gone : (p.entries.filter fun y => y.id != id).find? (fun y => y.id == id) = none :=
    List.find?_eq_none.mpr fun y hy => by simpa using List.of_mem_filter hy
  have purged := purge_of_unsound (reads := fun y => y.id == id) ⟨e, he, by simp [hid], unsound e he hid⟩
  rw [kept, counted] at purged
  rw [lookup_of_purged purged]
  simp only [gone, room, if_true]

section
variable {id : Nat} (absent : ∀ y ∈ p.entries, y.id ≠ id)
include absent

theorem lookup_absent : p.lookup id = if p.entries.length < 48 then (some (.created id), p)
    else match p.makePlace with
      | some r => (some (.created id), r)
      | none => (none, { p with counters := { p.counters with tableFull := count16 p.counters.tableFull } }) := by
  rw [lookup_of_purged (purge_of_sound fun y hy read => absurd (by simpa using read) (absent y hy)),
    find?_id_eq_none absent]

theorem lookup_room (room : p.entries.length < 48) : p.lookup id = (some (.created id), p) := by
  rw [lookup_absent absent, if_pos room]

theorem lookup_place {q : Peers} (full : 48 ≤ p.entries.length) (place : p.makePlace = some q) :
    p.lookup id = (some (.created id), q) := by
  rw [lookup_absent absent, if_neg (by omega), place]

theorem lookup_full (full : 48 ≤ p.entries.length) (place : p.makePlace = none) :
    p.lookup id = (none, { p with
      counters := { p.counters with tableFull := min 65535 (p.counters.tableFull + 1) } }) := by
  rw [lookup_absent absent, if_neg (by omega), place, count16_eq_min]

end

/-- The entries considered as victims are the SILENT ones, or with none SILENT the LEARNING ones. -/
theorem candidateState_eq {st : EntryState} (h : (st = .silent ∧ ∃ y ∈ p.entries, y.state = .silent) ∨
    (st = .learning ∧ ∀ y ∈ p.entries, y.state ≠ .silent)) : p.candidateState = st := by
  unfold Peers.candidateState
  rcases h with ⟨rfl, y, hy, silent⟩ | ⟨rfl, none⟩
  · exact if_pos (List.any_eq_true.mpr ⟨y, hy, by simp [silent]⟩)
  · refine if_neg fun any => ?_
    obtain ⟨y, hy, silent⟩ := List.any_eq_true.mp any
    exact none y hy (by simpa using silent)

/-- With the entries considered sound in a full table, the place is the victim's. -/
theorem makePlace_of_sound (full : 48 ≤ p.entries.length)
    (sound : ∀ y ∈ p.entries, y.state = p.candidateState → y.parity = true) :
    p.makePlace = ((p.entries.filter fun e => e.state == p.candidateState).foldl betterVictim none).map
      fun v => p.free v.id := by
  unfold Peers.makePlace
  dsimp only
  rw [purge_of_sound fun y hy read => sound y hy (by simpa using read), if_neg (by exact not_lt.mpr full)]

/-- An entry considered that fails its parity makes the place. -/
theorem makePlace_of_unsound (size : p.entries.length ≤ 48)
    (unsound : ∃ y ∈ p.entries, y.state = p.candidateState ∧ y.parity = false) :
    p.makePlace = some (p.purge fun e => e.state == p.candidateState) := by
  obtain ⟨e, he, st, failed⟩ := unsound
  unfold Peers.makePlace
  dsimp only
  exact if_pos ((filter_length_lt he (by simp [st, failed])).trans_le size)

/-- A fold that finds nothing older keeps what it has. -/
theorem foldl_betterVictim_of_le {es : List Entry} {v : Entry} (h : ∀ y ∈ es, y.age ≤ v.age) :
    es.foldl betterVictim (some v) = some v := by
  induction es with
  | nil => rfl
  | cons e es ih =>
    rw [List.foldl_cons, betterVictim, if_neg (not_lt.mpr (h e List.mem_cons_self))]
    exact ih fun y hy => h y (List.mem_cons_of_mem _ hy)

/-- In ascending ids the fold ends in the entry of the greatest age, the lowest id deciding a tie (R68). -/
theorem foldl_betterVictim_eq {es : List Entry} {v : Entry} (ascending : es.Pairwise fun a b => a.id < b.id)
    (hv : v ∈ es) (best : ∀ y ∈ es, y.age < v.age ∨ (y.age = v.age ∧ v.id ≤ y.id)) :
    es.foldl betterVictim none = some v := by
  obtain ⟨before, after, rfl⟩ := List.append_of_mem hv
  obtain ⟨-, -, cross⟩ := List.pairwise_append.mp ascending
  have younger : ∀ y ∈ before, y.age < v.age := by
    intro y hy
    have lower := cross y hy v List.mem_cons_self
    have := best y (List.mem_append_left _ hy)
    omega
  have noOlder : ∀ y ∈ after, y.age ≤ v.age := by
    intro y hy
    have := best y (List.mem_append_right _ (List.mem_cons_of_mem _ hy))
    omega
  rw [List.foldl_append, List.foldl_cons]
  have taken : betterVictim (before.foldl betterVictim none) v = some v := by
    cases found : before.foldl betterVictim none with
    | none => rfl
    | some x =>
      have inBefore : x ∈ before := (foldl_betterVictim_mem before none x found).elim id nofun
      exact if_pos (younger x inBefore)
  rw [taken, foldl_betterVictim_of_le noOlder]

end

/-- A full table of sound entries that are ACTIVE or DISCORDANT has no victim (R68). -/
theorem lookup_no_victim {p : Peers} {id : Nat} (absent : ∀ y ∈ p.entries, y.id ≠ id) (full : 48 ≤ p.entries.length)
    (safe : ∀ y ∈ p.entries, y.parity = true ∧ (y.state = .active ∨ y.state = .discordant)) :
    p.lookup id = (none, { p with
      counters := { p.counters with tableFull := min 65535 (p.counters.tableFull + 1) } }) := by
  refine lookup_full absent full ?_
  have learning : p.candidateState = .learning :=
    candidateState_eq (.inr ⟨rfl, fun y hy => by rcases (safe y hy).2 with h | h <;> simp [h]⟩)
  have none : p.entries.filter (fun e => e.state == p.candidateState) = [] := by
    rw [learning, List.filter_eq_nil_iff]
    intro y hy
    rcases (safe y hy).2 with h | h <;> simp [h]
  rw [makePlace_of_sound full fun y hy _ => (safe y hy).1, none]
  rfl

/-! ### The verdict and the restarted flag (R69, R70) -/

theorem clampLead_of_mem {lead : Int} (low : -2147483648 < lead) (high : lead < 2147483648) :
    clampLead lead = lead := by
  unfold clampLead
  omega

section
variable {e : Entry} {lead : Int}

@[simp] theorem judge_none : e.judge .none lead = e := rfl

theorem discord_of_ne (h : e.state ≠ .discordant) :
    e.discord = { e with state := .discordant, slots := [], anchor := none } := if_neg h

theorem discord_of_eq (h : e.state = .discordant) : e.discord = e := if_pos h

@[simp] theorem discord_restartedSeen : e.discord.restartedSeen = e.restartedSeen := by
  unfold Entry.discord
  split <;> rfl

@[simp] theorem judge_restartedSeen (v : Verdict) : (e.judge v lead).restartedSeen = e.restartedSeen := by
  cases v <;> simp [Entry.judge]

end

/-! ### Figures by the class of the announcement (R71, R75) -/

section
variable {ci c : Nat}

theorem classOf_zero : classOf 0 c = .late := rfl

theorem classOf_ahead (h : c + 1 < ci) : classOf ci c = .ahead := by
  rw [classOf, if_neg (by omega), if_pos (by omega)]

theorem classOf_late (positive : 1 ≤ ci) (h : ci + 1 < c) : classOf ci c = .late := by
  rw [classOf, if_neg (by omega), if_neg (by omega), if_pos (by omega)]

theorem classOf_inWindow (positive : 1 ≤ ci) (high : ci ≤ c + 1) (low : c ≤ ci + 1) : classOf ci c = .inWindow := by
  rw [classOf, if_neg (by omega), if_neg (by omega), if_neg (by omega)]

end

section
variable {p : Peers} {e : Entry} {f : Frame}

theorem anchorFrom_of_zero (h : f.ci = 0) : e.anchorFrom f = e := by simp [Entry.anchorFrom, h]

theorem anchorFrom_moves (positive : 1 ≤ f.ci)
    (h : e.anchor = none ∨ ∃ a, e.anchor = some a ∧ a.interval < f.ci - 1) :
    e.anchorFrom f = { e with anchor := some ⟨f.ci - 1, f.cumExport, f.cumImport⟩ } := by
  have announced : f.ci ≠ 0 := by omega
  rcases h with none | ⟨a, anchor, earlier⟩
  · simp [Entry.anchorFrom, none, announced]
  · simp [Entry.anchorFrom, anchor, announced, show ¬ f.ci - 1 ≤ a.interval by omega]

theorem anchorFrom_keeps {a : Anchor} (anchor : e.anchor = some a) (later : f.ci - 1 ≤ a.interval) :
    e.anchorFrom f = e := by
  simp [Entry.anchorFrom, anchor, later]

theorem figures_discordant (h : e.state = .discordant) : p.figures e f = { p.put e with
    counters := { p.counters with discordant := min 65535 (p.counters.discordant + 1) } } := by
  rw [Peers.figures, if_pos h, count16_eq_min]

theorem figures_ahead (h : e.state ≠ .discordant) (cls : classOf f.ci p.tableInterval = .ahead) :
    p.figures e f = { p.put e with
      counters := { p.counters with ahead := min 65535 (p.counters.ahead + 1) } } := by
  simp only [Peers.figures, if_neg h, cls, count16_eq_min]

theorem figures_late (h : e.state ≠ .discordant) (cls : classOf f.ci p.tableInterval = .late) :
    p.figures e f = { p.put (e.anchorFrom f) with
      counters := { p.counters with late := min 65535 (p.counters.late + 1) } } := by
  simp only [Peers.figures, if_neg h, cls, count16_eq_min]

theorem figures_inWindow (h : e.state ≠ .discordant) (cls : classOf f.ci p.tableInterval = .inWindow) :
    p.figures e f = { p.put (e.file f p.tableInterval).1 with
      counters := p.counters.recovery (e.file f p.tableInterval).2 } := by
  simp only [Peers.figures, if_neg h, cls]

/-- The frame's entry after the verdict and the restarted flag, one restart counted where the flag was not seen
before. -/
theorem apply_eq {q : Peers} {h : Entry} (hh : h = e.hear) (verdict : Verdict) (lead : Int)
    (restart : f.restarted = true ∧ h.restartedSeen = false → p = { q with
      counters := { q.counters with peerRestarts := min 65535 (q.counters.peerRestarts + 1) } })
    (same : ¬ (f.restarted = true ∧ h.restartedSeen = false) → p = q) :
    q.apply e f verdict lead = p.figures ((h.judge verdict lead).restartFlag f.restarted) f := by
  subst hh
  unfold Peers.apply
  dsimp only
  by_cases first : f.restarted = true ∧ e.hear.restartedSeen = false
  · rw [restart first, if_pos (by simp [Entry.countsRestart, first]), count16_eq_min]
  · rw [same first, if_neg (by simpa [Entry.countsRestart] using first)]

end

/-! ### The take of a peer's frame (R67 to R77) -/

section
variable {s t : State} {x : QueueEntry} {f : Frame} {q : Peers} {verdict : Verdict} {lead : Int}

theorem marked_eq_true : s.marked x = true ↔ x.preJump = true ∨ x.stamp.jumps < s.clock.jumps ∨
    x.stamp.completions < s.store.completions ∨ s.clock.epoch < s.store.completions := by
  simp [State.marked, State.completionDue, or_assoc]

theorem takePeerFrame_of_entry {e : Entry} (found : s.peers.lookup f.sender = (some e, q))
    (judged : (s.setPeers q).alignmentInput (inputOf f x (s.marked x)) = (verdict, lead, t)) :
    s.takePeerFrame x f = t.setPeers (t.peers.apply e f verdict lead) := by
  simp only [State.takePeerFrame, found, judged]

theorem takePeerFrame_of_none (found : s.peers.lookup f.sender = (none, q))
    (judged : (s.setPeers q).alignmentInput (inputOf f x (s.marked x)) = (verdict, lead, t)) :
    s.takePeerFrame x f = t := by
  simp only [State.takePeerFrame, found, judged]

/-- A frame that counts as marked is judged NONE and leaves the clock untouched (R77). -/
theorem judged_of_marked (u : State) (h : s.marked x = true) :
    u.alignmentInput (inputOf f x (s.marked x)) = (.none, 0, u) := by
  rw [h, alignmentInput_marked]

end

/-- The first frame of a peer in an empty table, not restarted and announcing the interval before the table's (R61, R72,
R75). -/
theorem figures_first {p : Peers} {f : Frame} (empty : p.entries = []) (announced : f.ci = p.tableInterval)
    (positive : 1 ≤ f.ci) (clear : f.restarted = false) :
    p.apply (.created f.sender) f .none 0 = { p with entries := [
      { id := f.sender, state := .active, age := 0, heard := 1, lead := none, restartedSeen := false
        anchor := some ⟨f.ci - 1, f.cumExport, f.cumImport⟩
        slots := [{ label := f.ci - 1, status := .direct, exportWh := f.exportWh, importWh := f.importWh
                    saturated := f.saturated, supply := f.supply, senderHeld := f.held }]
        parity := true }] } := by
  rw [apply_eq (p := p) (h := (Entry.created f.sender).hear) rfl .none 0 (by simp [clear]) fun _ => rfl, judge_none,
    figures_inWindow (by simp [clear, Entry.restartFlag, Entry.hear, Entry.created])
      (classOf_inWindow positive (by omega) (by omega))]
  have announced' : f.ci ≠ 0 := by omega
  simp [clear, Entry.restartFlag, Entry.hear, Entry.created, Entry.file, Entry.fill, Entry.putSlot, Entry.recovery,
    Entry.recovers, Entry.anchorFrom, announced', insertSlot, Peers.put, empty, insertEntry, TableCounters.recovery,
    Frame.directSlot, count16_eq_min]

/-- Settles O33: the take by the outcome of the lookup and the mark; the lookup by what the table holds; the verdict's
table; the figures by the frame's class. -/
theorem firstFrameMakesAnActiveEntry : Obligations.FirstFrameMakesAnActiveEntry := by
  refine ⟨fun s x rest f waits => ⟨?first, ?entry, ?full, ?none⟩, ?lookup, ?judge, ?figures⟩
  case first =>
    intro mark clear empty announced positive
    have marked : State.marked (s.setLink { s.link with queue := rest }) x = true := marked_eq_true.mpr (.inl mark)
    have found : s.peers.lookup f.sender = (some (.created f.sender), s.peers) :=
      lookup_room (by simp [empty]) (by simp [empty])
    rw [exec_frameTake_peer waits, takePeerFrame_of_entry (by exact found) (judged_of_marked _ marked)]
    exact congrArg (fun p => Host.Outcome.next (State.setPeers _ p)) (figures_first empty announced positive clear)
  case entry =>
    intro e h verdict lead t p q found heard
    have hh : h = e.hear := by rw [heard, Entry.hear, count16_eq_min]
    refine ⟨fun mark jumps stamped taken judged restart same => ?_, fun mark restart same => ?_⟩
    · have unmarked : State.marked (s.setLink { s.link with queue := rest }) x = false :=
        marked_eq_false.mpr ⟨mark, jumps, stamped, taken⟩
      have judged' : State.alignmentInput (inputOf f x (State.marked (s.setLink { s.link with queue := rest }) x))
          ((s.setLink { s.link with queue := rest }).setPeers q) = (verdict, lead, t) := by
        rw [unmarked]
        exact judged
      rw [exec_frameTake_peer waits, takePeerFrame_of_entry (by exact found) judged',
        apply_eq hh verdict lead restart same]
      rfl
    · have marked : State.marked (s.setLink { s.link with queue := rest }) x = true := marked_eq_true.mpr mark
      rw [exec_frameTake_peer waits, takePeerFrame_of_entry (by exact found) (judged_of_marked _ marked)]
      exact congrArg (fun p => Host.Outcome.next (State.setPeers _ p)) (apply_eq hh .none 0 restart same)
  case full =>
    intro mark full safe
    have marked : State.marked (s.setLink { s.link with queue := rest }) x = true := marked_eq_true.mpr (.inl mark)
    have found := lookup_no_victim (fun y hy => (safe y hy).2.1) full fun y hy => ⟨(safe y hy).1, (safe y hy).2.2⟩
    rw [exec_frameTake_peer waits, takePeerFrame_of_none (by exact found) (judged_of_marked _ marked)]
    rfl
  case none =>
    intro q verdict lead t found
    refine ⟨fun mark jumps stamped taken judged => ?_, fun mark => ?_⟩
    · have unmarked : State.marked (s.setLink { s.link with queue := rest }) x = false :=
        marked_eq_false.mpr ⟨mark, jumps, stamped, taken⟩
      have judged' : State.alignmentInput (inputOf f x (State.marked (s.setLink { s.link with queue := rest }) x))
          ((s.setLink { s.link with queue := rest }).setPeers q) = (verdict, lead, t) := by
        rw [unmarked]
        exact judged
      rw [exec_frameTake_peer waits, takePeerFrame_of_none (by exact found) judged']
    · have marked : State.marked (s.setLink { s.link with queue := rest }) x = true := marked_eq_true.mpr mark
      rw [exec_frameTake_peer waits, takePeerFrame_of_none (by exact found) (judged_of_marked _ marked)]
      rfl
  case lookup =>
    rintro p id st new rfl candidates
    have considered := candidateState_eq candidates
    refine ⟨fun e held sound => lookup_held held sound, lookup_unsound, fun absent => ⟨lookup_room absent,
      fun full safe => lookup_no_victim absent full safe, fun v hv full ascending sound victim best => ?_,
      fun size unsound => ?_⟩⟩
    · refine lookup_place absent full ?_
      rw [makePlace_of_sound full (considered ▸ sound), considered, foldl_betterVictim_eq (v := v) (ascending.filter _)
        (List.mem_filter.mpr ⟨hv, by simp [victim]⟩)
        fun y hy => best y (List.mem_of_mem_filter hy) (by simpa using List.of_mem_filter hy)]
      rfl
    · obtain ⟨y, hy, st', failed⟩ := unsound
      refine lookup_place absent size.ge ?_
      rw [makePlace_of_unsound size.le (considered ▸ ⟨y, hy, st', failed⟩), considered,
        purge_of_unsound ⟨y, hy, by simp [st'], failed⟩]
      rfl
  case judge =>
    intro e lead low high
    have inRange := clampLead_of_mem low high
    refine ⟨rfl, ?_, fun other => ⟨?_, ?_⟩, fun discordant => ⟨?_, ?_⟩, rfl, rfl⟩
    · rw [Entry.judge, inRange]
    · rw [Entry.judge, inRange, if_neg other]
    · rw [Entry.judge, inRange, discord_of_ne other]
    · rw [Entry.judge, inRange, if_pos discordant]
    · rw [Entry.judge, inRange, discord_of_eq discordant]
  case figures =>
    intro p e f
    refine ⟨figures_discordant, fun other zero => ?_, fun other ahead => figures_ahead other (classOf_ahead ahead),
      fun other positive late => ⟨fun moves => ?_, fun a anchor keeps => ?_⟩⟩
    · rw [figures_late other (by rw [zero, classOf_zero]), anchorFrom_of_zero zero]
    · rw [figures_late other (classOf_late positive late), anchorFrom_moves positive moves]
    · rw [figures_late other (classOf_late positive late), anchorFrom_keeps anchor keeps]

end Sys2Proof.Machine

/-! SUPPORT. The slots and the recovery of an entry, the boundary and the commissioning at the table and at the
reckoning unit (R72 to R83, R89, R90, R111). -/

namespace Sys2Proof.Machine

open Sys2Proof.Safety

/-! ### Entries and slots put in their place -/

section
variable {p : Entry → Bool} {x : Entry}

theorem find?_insertEntry_of_pos (hx : p x = true) {es : List Entry} (others : ∀ y ∈ es, p y = false) :
    (insertEntry x es).find? p = some x := by
  induction es with
  | nil => simp [insertEntry, hx]
  | cons e es ih =>
    unfold insertEntry
    split
    · simp [hx]
    · rw [List.find?_cons_of_neg (by simp [others e List.mem_cons_self])]
      exact ih fun y hy => others y (List.mem_cons_of_mem _ hy)

theorem find?_insertEntry_of_neg (hx : p x = false) (es : List Entry) : (insertEntry x es).find? p = es.find? p := by
  induction es with
  | nil => simp [insertEntry, hx]
  | cons e es ih =>
    unfold insertEntry
    split
    · rw [List.find?_cons_of_neg (by simp [hx])]
    · simp [List.find?_cons, ih]

end

section
variable {p : Slot → Bool} {x : Slot}

theorem find?_insertSlot_of_pos (hx : p x = true) {ys : List Slot} (others : ∀ y ∈ ys, p y = false) :
    (insertSlot x ys).find? p = some x := by
  induction ys with
  | nil => simp [insertSlot, hx]
  | cons y ys ih =>
    unfold insertSlot
    split
    · simp [hx]
    · rw [List.find?_cons_of_neg (by simp [others y List.mem_cons_self])]
      exact ih fun z hz => others z (List.mem_cons_of_mem _ hz)

theorem find?_insertSlot_of_neg (hx : p x = false) (ys : List Slot) : (insertSlot x ys).find? p = ys.find? p := by
  induction ys with
  | nil => simp [insertSlot, hx]
  | cons y ys ih =>
    unfold insertSlot
    split
    · rw [List.find?_cons_of_neg (by simp [hx])]
    · simp [List.find?_cons, ih]

end

/-- What a filter by another key leaves does not matter to a search by this one. -/
theorem find?_filter_ne {α : Type} {key : α → Nat} {i j : Nat} (h : j ≠ i) (xs : List α) :
    (xs.filter fun y => key y != i).find? (fun y => key y == j) = xs.find? fun y => key y == j := by
  rw [List.find?_filter]
  congr 1
  funext y
  by_cases same : key y = j
  · simp [same, h]
  · simp [same]

/-- The table holds the entry that is put, and every other as it was. -/
theorem find?_put_same (p : Peers) (x : Entry) : (p.put x).entries.find? (fun y => y.id == x.id) = some x :=
  find?_insertEntry_of_pos (by simp) fun y hy => by simpa using List.of_mem_filter hy

theorem find?_put_ne (p : Peers) {x : Entry} {id : Nat} (h : id ≠ x.id) :
    (p.put x).entries.find? (fun y => y.id == id) = p.entries.find? (fun y => y.id == id) := by
  rw [Peers.put, find?_insertEntry_of_neg (by simpa using h.symm)]
  exact find?_filter_ne h _

section
variable (e : Entry) (x : Slot)

theorem slot_putSlot_same : (e.putSlot x).slot x.label = some x :=
  find?_insertSlot_of_pos (by simp) fun y hy => by simpa using List.of_mem_filter hy

theorem slot_putSlot_ne {j : Nat} (h : j ≠ x.label) : (e.putSlot x).slot j = e.slot j := by
  rw [Entry.slot, Entry.putSlot, find?_insertSlot_of_neg (by simpa using h.symm)]
  exact find?_filter_ne h _

end

/-! ### Recovery (R73, R74) -/

section
variable {e : Entry} {f : Frame} {c : Nat}

/-- The conditions of a recovery. -/
theorem recovers_eq_some {a : Anchor} (anchor : e.anchor = some a) (early : 3 ≤ f.ci) (at3 : a.interval = f.ci - 3)
    (empty : e.slot (f.ci - 2) = none) (window : c ≤ f.ci) (exact' : f.saturated = false) :
    e.recovers f c = some a := by
  have inWindow : c ≤ f.ci - 2 + 2 := by omega
  simp [Entry.recovers, anchor, early, empty, inWindow, at3, exact']

theorem recovers_eq_none (h : e.anchor = none ∨ (∃ a, e.anchor = some a ∧ a.interval + 3 ≠ f.ci) ∨
    (∃ y ∈ e.slots, y.label + 2 = f.ci) ∨ f.ci < c ∨ f.saturated = true) : e.recovers f c = none := by
  unfold Entry.recovers
  split
  case h_1 a anchor =>
    refine if_neg ?_
    rintro ⟨early, empty, window, at3, unsaturated⟩
    rcases h with none | ⟨b, anchor', other⟩ | ⟨y, hy, label⟩ | past | saturated
    · simp [none] at anchor
    · obtain rfl : a = b := Option.some_inj.mp (anchor.symm.trans anchor')
      omega
    · have unheld := List.find?_eq_none.mp (Option.isNone_iff_eq_none.mp empty) y hy
      exact unheld (beq_iff_eq.mpr (by omega))
    · omega
    · exact unsaturated saturated
  case h_2 => rfl

theorem recoverySlot_recovered {label : Nat} {dExport dImport : Word32} (he : dExport.toNat < 2 ^ 31)
    (hi : dImport.toNat < 2 ^ 31) : recoverySlot label dExport dImport =
      { label := label, status := .recovered, exportWh := min 65535 dExport.toNat, importWh := min 65535 dImport.toNat
        saturated := decide (65535 < dExport.toNat) || decide (65535 < dImport.toNat), supply := none
        senderHeld := false } := by
  refine if_neg ?_
  simp only [regressed, Bool.or_eq_true, decide_eq_true_eq]
  omega

theorem recoverySlot_broken {label : Nat} {dExport dImport : Word32}
    (h : 2 ^ 31 ≤ dExport.toNat ∨ 2 ^ 31 ≤ dImport.toNat) : recoverySlot label dExport dImport =
      { label := label, status := .broken, exportWh := 0, importWh := 0, saturated := false, supply := none
        senderHeld := false } := by
  refine if_pos ?_
  simp only [regressed, Bool.or_eq_true, decide_eq_true_eq]
  omega

@[simp] theorem recoverySlot_label (label : Nat) (dExport dImport : Word32) :
    (recoverySlot label dExport dImport).label = label := by
  unfold recoverySlot
  split <;> rfl

/-- A recovery is of the interval before the announced one, and an announcement that recovers is of 3 or more. -/
theorem recovery_label {z : Slot} (h : e.recovery f c = some z) : 3 ≤ f.ci ∧ z.label = f.ci - 2 := by
  obtain ⟨a, found, rfl⟩ := Option.map_eq_some_iff.mp h
  unfold Entry.recovers at found
  split at found
  case h_1 =>
    split at found
    case isTrue conditions => exact ⟨conditions.1, recoverySlot_label ..⟩
    case isFalse => cases found
  case h_2 => cases found

/-! ### A frame filed (R72 to R75) -/

@[simp] theorem fill_anchor : (e.fill f).anchor = e.anchor := rfl

theorem slot_fill_same : (e.fill f).slot (f.ci - 1) = some f.directSlot := slot_putSlot_same e f.directSlot

theorem slot_fill_ne {j : Nat} (h : j ≠ f.ci - 1) : (e.fill f).slot j = e.slot j := slot_putSlot_ne e f.directSlot h

/-- The slot a frame fills is not one that it recovers. -/
theorem recovery_fill : (e.fill f).recovery f c = e.recovery f c := by
  have same : (e.fill f).recovers f c = e.recovers f c := by
    unfold Entry.recovers
    rw [fill_anchor]
    cases e.anchor with
    | none => rfl
    | some a =>
      by_cases early : 3 ≤ f.ci
      · simp only [slot_fill_ne (e := e) (f := f) (j := f.ci - 2) (by omega)]
      · simp [early]
  rw [Entry.recovery, Entry.recovery, same]

/-- The entry a frame is filed in, before its anchor moves. -/
def Entry.filled (e : Entry) (f : Frame) (c : Nat) : Entry :=
  match e.recovery f c with
  | some z => (e.fill f).putSlot z
  | none => e.fill f

theorem file_eq : e.file f c = ((e.filled f c).anchorFrom f, e.recovery f c) := by
  cases recovered : e.recovery f c <;> simp only [Entry.file, Entry.filled, recovery_fill, recovered]

theorem filled_anchor : (e.filled f c).anchor = e.anchor := by
  unfold Entry.filled
  split <;> rfl

theorem filled_state : (e.filled f c).state = if e.state = .learning ∨ e.state = .silent then .active else e.state := by
  unfold Entry.filled
  split <;> rfl

theorem filled_frame : e.filled f c = { e with
    state := (e.filled f c).state, slots := (e.filled f c).slots, anchor := (e.filled f c).anchor } := by
  unfold Entry.filled
  split <;> rfl

/-- A frame's figures go to the slot of the announced interval. -/
theorem slot_filled_direct : (e.filled f c).slot (f.ci - 1) = some f.directSlot := by
  unfold Entry.filled
  split
  case h_1 z recovered =>
    obtain ⟨early, label⟩ := recovery_label recovered
    rw [slot_putSlot_ne _ _ (by omega), slot_fill_same]
  case h_2 => exact slot_fill_same

theorem slot_filled_recovered {z : Slot} (recovered : e.recovery f c = some z) :
    (e.filled f c).slot (f.ci - 2) = some z := by
  simp only [Entry.filled, recovered, ← (recovery_label recovered).2, slot_putSlot_same]

theorem slot_filled_unrecovered {j : Nat} (other : j ≠ f.ci - 1) (h : e.recovery f c = none ∨ j ≠ f.ci - 2) :
    (e.filled f c).slot j = e.slot j := by
  unfold Entry.filled
  split
  case h_1 z recovered =>
    rw [recovered] at h
    rw [slot_putSlot_ne _ _ (by rw [(recovery_label recovered).2]; exact h.resolve_left nofun), slot_fill_ne other]
  case h_2 => exact slot_fill_ne other

/-- An anchor moved leaves the rest of the entry. -/
theorem anchorFrom_frame : e.anchorFrom f = { e with anchor := (e.anchorFrom f).anchor } := by
  unfold Entry.anchorFrom
  dsimp only
  split <;> split <;> rfl

end

/-- Settles O34: the conditions and the outcome of a recovery; the frame's slot, the recovered one and the anchor of the
entry it is filed in; the entry put in the table. -/
theorem recoveryByDifference : Obligations.RecoveryByDifference := by
  refine ⟨fun e f a c anchor early at3 empty window exact' => ?made, fun e f c h => ?unmade,
    fun p e f other positive high low => ?filed, fun p h => ⟨find?_put_same p h, fun id => find?_put_ne p⟩⟩
  case made =>
    have unheld : e.slot (f.ci - 2) = none := List.find?_eq_none.mpr fun y hy => by simpa using empty y hy
    have recovers := recovers_eq_some anchor early at3 unheld window exact'
    refine ⟨fun he hi => ?_, fun regression => ?_⟩
    · rw [Entry.recovery, recovers, Option.map_some]
      exact congrArg some (recoverySlot_recovered he hi)
    · rw [Entry.recovery, recovers, Option.map_some]
      exact congrArg some (recoverySlot_broken regression)
  case unmade => rw [Entry.recovery, recovers_eq_none h, Option.map_none]
  case filed =>
    have figures := figures_inWindow (p := p) other (classOf_inWindow positive high low)
    rw [file_eq] at figures
    have frame := anchorFrom_frame (e := e.filled f p.tableInterval) (f := f)
    have slots : ((e.filled f p.tableInterval).anchorFrom f).slots = (e.filled f p.tableInterval).slots := by rw [frame]
    refine ⟨_, _, figures, ?_, ?_, ?_, fun j direct before => ?_, fun unmade => ⟨?_, fun two => ?_⟩,
      fun z made => ⟨?_, fun status => ?_, fun status => ?_⟩, fun moves => ?_, fun a anchor keeps => ?_⟩
    · rw [frame, filled_frame]
    · rw [frame]
      exact filled_state
    · rw [slots]
      exact slot_filled_direct
    · rw [slots]
      exact slot_filled_unrecovered direct (.inr before)
    · rw [unmade]
      rfl
    · rw [slots]
      exact slot_filled_unrecovered (by omega) (.inl unmade)
    · rw [slots]
      exact slot_filled_recovered made
    · simp [made, TableCounters.recovery, status, count16_eq_min]
    · simp [made, TableCounters.recovery, status, count16_eq_min]
    · rw [anchorFrom_moves positive (by rwa [filled_anchor])]
    · rw [anchorFrom_keeps (by rw [filled_anchor]; exact anchor) keeps, filled_anchor, anchor]

/-! ### A boundary at the table (R62, R78 to R81) -/

/-- A boundary frees the slots that fall out of the window and ages the entry; a SILENT one at 255 is freed. -/
theorem atBoundary_eq (e : Entry) (k : Nat) : e.atBoundary k =
    if e.state = .silent ∧ 254 ≤ e.age then none
    else some { e with
      age := min 255 (e.age + 1), slots := e.slots.filter fun x => decide (k < x.label + 2)
      state := if 3 ≤ e.age then .silent else e.state } := by
  have freed : (e.state = .silent ∧ satInc 255 e.age = 255) ↔ e.state = .silent ∧ 254 ≤ e.age := by
    rw [satInc_eq_min]
    exact and_congr_right fun _ => by omega
  have silent : (if e.state ≠ .silent ∧ 4 ≤ satInc 255 e.age then EntryState.silent else e.state) =
      if 3 ≤ e.age then .silent else e.state := by
    rw [satInc_eq_min]
    by_cases state : e.state = .silent
    · simp [state]
    · simp only [ne_eq, state, not_false_eq_true, true_and]
      exact if_congr (by omega) rfl rfl
  unfold Entry.atBoundary
  dsimp only
  rw [silent, if_congr freed rfl rfl, satInc_eq_min]

theorem exec_peerTableBoundary {s t : State} {k n : Nat} {a : Alignment} {rest : List Notice} {p : Peers}
    (powered : s.supervisor.powered = true) (current : s.store.completions ≤ s.peers.epoch)
    (inbox : s.peers.inbox = .boundary k n a s.peers.epoch :: rest) (hp : p = s.peers.purge fun _ => true)
    (ht : t = s.setPeers { p with
      entries := p.entries.filterMap fun e => e.atBoundary k, tableInterval := n, inbox := rest }) :
    exec .peerTableBoundary s = .next (if a = .aligned ∧ 2 ≤ k then
      (t.takeInput (2 * k + 1) (k - 2) (.list (listOf p.entries (k - 2)))).run else t) := by
  simp only [exec, execPeerTableBoundary, whenPowered_on powered]
  simp only [inbox, boundaryFront, Delivery.front_current current, ← hp, ht]

/-- A read of the whole table frees every entry that fails its parity. -/
theorem purge_all {p : Peers} (bounded : p.counters.parityDiscards ≤ 65535) : p.purge (fun _ => true) = { p with
    entries := p.entries.filter (fun e => e.parity)
    counters := { p.counters with
      parityDiscards :=
        min 65535 (p.counters.parityDiscards + (p.entries.filter fun e => !e.parity).length) } } := by
  have kept : p.entries.filter (fun e => e.parity || !true) = p.entries.filter (fun e => e.parity) := by simp
  have counted : p.entries.countP (fun e => !e.parity && true) = (p.entries.filter fun e => !e.parity).length := by
    simp [List.countP_eq_length_filter]
  rw [Peers.purge, kept, counted, TableCounters.discards]
  split
  case isTrue none =>
    have unchanged : min 65535 (p.counters.parityDiscards + 0) = p.counters.parityDiscards := by omega
    rw [none, unchanged]
  case isFalse => rfl

theorem countedSlot_eq_some {e : Entry} {j : Nat} {x : Slot} : e.countedSlot j = some x ↔
    e.slots.find? (fun y => y.label == j) = some x ∧ (x.status = .direct ∨ x.status = .recovered) := by
  simp [Entry.countedSlot, Entry.slot, Option.filter_eq_some_iff]

theorem listOf_expected_cons_of_pos {e : Entry} {j : Nat} (h : e.state = .active ∨ ∃ x, e.countedSlot j = some x)
    (es : List Entry) : (listOf (e :: es) j).expected = (listOf es j).expected + 1 := by
  refine List.countP_cons_of_pos (p := fun e : Entry => e.state == .active || (e.countedSlot j).isSome) ?_
  simpa [Option.isSome_iff_exists] using h

theorem listOf_expected_cons_of_neg {e : Entry} {j : Nat} (h : ¬ (e.state = .active ∨ ∃ x, e.countedSlot j = some x))
    (es : List Entry) : (listOf (e :: es) j).expected = (listOf es j).expected := by
  refine List.countP_cons_of_neg (p := fun e : Entry => e.state == .active || (e.countedSlot j).isSome) ?_
  simpa [Option.isSome_iff_exists] using h

/-- Settles O35. -/
theorem tableAgesAtBoundaries : Obligations.TableAgesAtBoundaries := by
  refine ⟨fun s k n rest powered current inbox sound => ?unaligned,
    fun s k n rest sound p powered current inbox two bounded hsound hp => ?aligned, fun es j counts hcounts => ?list⟩
  case unaligned =>
    rw [exec_peerTableBoundary powered current inbox rfl rfl, if_neg (by simp), Peers.purge_sound sound]
    simp only [atBoundary_eq]
    rfl
  case aligned =>
    have purged := purge_all bounded
    rw [← hsound] at purged
    have taken := exec_peerTableBoundary powered current inbox purged.symm rfl
    rw [if_pos ⟨rfl, two⟩] at taken
    have table : p = { s.peers with
        inbox := rest, tableInterval := n, entries := sound.filterMap fun e => e.atBoundary k
        counters := { s.peers.counters with
          parityDiscards :=
            min 65535 (s.peers.counters.parityDiscards + (s.peers.entries.filter fun e => !e.parity).length) } } := by
      simp only [hp, atBoundary_eq]
    have handed : exec .peerTableBoundary s =
        .next (State.takeInput (2 * k + 1) (k - 2) (.list (listOf sound (k - 2))) (s.setPeers p)).run := by
      rw [taken, table]
    refine ⟨handed, fun parity empty above => ?_⟩
    rw [handed, takeInput_opens (by exact parity) (by simp [empty, fillPending]) (by exact above)]
    simp only [State.setPeers_reckoning, empty]
    rfl
  case list =>
    have counted (e : Entry) : (∃ x, counts e x) ↔ ∃ x, e.countedSlot j = some x := by
      simp only [hcounts, countedSlot_eq_some]
    refine ⟨fun q => ?_, fun e => ?_, rfl⟩
    · simp only [listOf, List.mem_filterMap, Option.map_eq_some_iff, countedSlot_eq_some, hcounts, countedPeer,
        eq_comm (a := q)]
    · rw [counted]
      by_cases expected : e.state = .active ∨ ∃ x, e.countedSlot j = some x
      · simp [listOf_expected_cons_of_pos expected, expected]
      · simp [listOf_expected_cons_of_neg expected, expected]

/-! ### Commissioning at the table and at the unit (R83, R89, R90, R111) -/

/-- Inputs of closed intervals are discarded: from a completion on all of them, else with nothing pending those at or
below the last reckoned interval (R91, R111). -/
theorem takeInputs_closed {order : Nat} : ∀ {xs : List (Nat × ReckoningInput)} {s : State},
    s.reckoning.lastParity = true → s.reckoning.pending = [] → (∀ x ∈ xs, closedTo s.reckoning.last x.1 = true) →
    s.takeInputs order xs = .done (s.setReckoning (xs.foldl (fun u x => u.discard x.2) s.reckoning))
  | [], _, _, _, _ => rfl
  | (j, i) :: xs, s, parity, empty, closed => by
    have here : closedTo s.reckoning.last j = true := closed _ List.mem_cons_self
    have taken : s.takeInput order j i = .done (s.setReckoning (s.reckoning.discard i)) := by
      simp [State.takeInput, empty, fillPending, State.unmatched, parity, here]
    obtain ⟨n, discarded⟩ := s.reckoning.discard_eq i
    have later := takeInputs_closed (order := order) (xs := xs) (s := s.setReckoning (s.reckoning.discard i))
      (by simpa [discarded] using parity) (by simpa [discarded] using empty)
      (fun x hx => by simpa [discarded] using closed x (List.mem_cons_of_mem _ hx))
    simp only [State.takeInputs, taken, Guarded.andThen, later]
    rfl

theorem takeInstructed_closed {s : State} {order : Nat} {xs : List (Nat × ReckoningInput)}
    (parity : s.reckoning.lastParity = true) (closed : s.reckoning.epoch < s.store.completions ∨
      (s.reckoning.pending = [] ∧ ∀ x ∈ xs, closedTo s.reckoning.last x.1 = true)) :
    s.takeInstructed order xs = .done (s.setReckoning (xs.foldl (fun u x => u.discard x.2) s.reckoning)) := by
  unfold State.takeInstructed
  rcases closed with outstanding | ⟨empty, below⟩
  · rw [if_pos (completionDue_iff.mpr outstanding), if_pos (by simp [parity])]
  · rw [takeInputs_closed parity empty below]
    simp [parity]

theorem exec_reckoningInstruction {s : State} {k n e : Nat} {a : Alignment} {rest : List Notice}
    (powered : s.supervisor.powered = true) (reached : e ≤ s.reckoning.epoch)
    (inbox : s.reckoning.inbox = .boundary k n a e :: rest) :
    exec .reckoningInstruction s = .next (if a = .aligned ∧ 2 ≤ k then
      ((s.setReckoning { s.reckoning with inbox := rest }).instruct k).run
      else s.setReckoning { s.reckoning with inbox := rest }) := by
  simp only [exec, execReckoningInstruction, whenPowered_on powered]
  simp only [inbox, if_neg (not_lt.mpr reached)]

theorem exec_cutShortInstruction {s : State} {k n e : Nat} {a : Alignment} {rest : List Notice}
    (powered : s.supervisor.powered = true) (reached : e ≤ s.reckoning.epoch)
    (inbox : s.reckoning.inbox = .jump k n a e :: rest) :
    exec .cutShortInstruction s = .next (if a = .aligned then
      ((s.setReckoning { s.reckoning with inbox := rest }).takeInstructed (2 * k)
        ((cutShortIntervals k).map fun j => (j, .instruction .cutShort))).run
      else s.setReckoning { s.reckoning with inbox := rest }) := by
  simp only [exec, execCutShortInstruction, whenPowered_on powered]
  simp only [inbox, if_neg (not_lt.mpr reached)]

theorem lastAfterCompletion_moves {c : Nat} {last : Option Nat} (positive : 1 ≤ c)
    (above : ∀ k, last = some k → k < c - 1) : lastAfterCompletion c last = some (c - 1) := by
  simp [lastAfterCompletion, positive, closedTo_eq_false above]

theorem lastAfterCompletion_stays {c k : Nat} {last : Option Nat} (held : last = some k) (le : c - 1 ≤ k) :
    lastAfterCompletion c last = last := by
  simp [lastAfterCompletion, closedTo_eq_true held le]

theorem lastAfterCompletion_zero (last : Option Nat) : lastAfterCompletion 0 last = last := rfl

/-- Settles O36. -/
theorem commissioningAtTableAndReckoning : Obligations.CommissioningAtTableAndReckoning := by
  refine ⟨fun s powered => ?table, fun s powered outstanding => ?unit, fun s w working => ?number,
    fun s k n e rest closed powered parity reached hclosed => ?closed,
    fun s k n e a rest powered reached => ?nothing⟩
  case table =>
    refine ⟨fun outstanding => ?_, fun op => ?_, fun k n a e rest old => ⟨fun inbox => ?_, fun inbox => ?_⟩⟩
    · simp only [exec, execPeerTableCommissioning, whenPowered_on powered, completionDue_iff.mpr outstanding, if_true]
      rfl
    · simp only [exec, execTakingBegins, whenPowered_on powered, if_pos op]
      rfl
    · simp only [exec, execPeerTableBoundary, whenPowered_on powered]
      simp only [inbox, boundaryFront, Delivery.front_old old]
      rfl
    · simp only [exec, execPeerTableJump, whenPowered_on powered]
      simp only [inbox, jumpFront, Delivery.front_old old]
      rfl
  case unit =>
    refine ⟨_, ?_, lastAfterCompletion_moves, fun k => lastAfterCompletion_stays, fun zero => ?_⟩
    · simp only [exec, execReckoningCommissioning, whenPowered_on powered, completionDue_iff.mpr outstanding, if_true]
      rfl
    · rw [zero, lastAfterCompletion_zero]
  case number =>
    have numbered : s.numberedC =
        if s.clock.c ≤ w.record.startInterval then w.record.startInterval else s.clock.c := by
      simp [State.numberedC, State.config, working]
    refine ⟨fun outstanding => ⟨fun le => ?_, fun lt => ?_⟩, fun taken => ?_⟩
    · rw [State.completionC, if_pos (completionDue_iff.mpr outstanding), numbered, if_pos le]
    · rw [State.completionC, if_pos (completionDue_iff.mpr outstanding), numbered, if_neg (not_le.mpr lt)]
    · rw [State.completionC, completionDue_eq_false taken]
      rfl
  case closed =>
    have closedBy {j : Nat} (h : closed j) : s.reckoning.epoch < s.store.completions ∨
        (s.reckoning.pending = [] ∧ closedTo s.reckoning.last j = true) :=
      ((hclosed j).mp h).imp_right fun ⟨empty, l, last, le⟩ => ⟨empty, closedTo_eq_true last le⟩
    refine ⟨fun inbox two h => ?_, fun inbox => ⟨fun two h2 h1 => ?_, fun one h => ?_⟩⟩
    · rw [exec_reckoningInstruction powered reached inbox, if_pos ⟨rfl, two⟩, State.instruct, takeInstructed_closed
        (by exact parity) (by exact (closedBy h).imp_right fun ⟨empty, below⟩ => ⟨empty, by simp [below]⟩)]
      simp only [List.foldl_cons, List.foldl_nil, Reckoning.discard, Reckoning.repeated, count16_eq_min]
      rfl
    · rw [exec_cutShortInstruction powered reached inbox, if_pos rfl, cutShortIntervals_of_two_le two,
        takeInstructed_closed (by exact parity) ?_]
      · simp only [List.map_cons, List.map_nil, List.foldl_cons, List.foldl_nil, Reckoning.discard, Reckoning.repeated,
          count16_count16]
        rfl
      · rcases closedBy h2 with outstanding | ⟨empty, below2⟩
        · exact .inl outstanding
        · rcases closedBy h1 with outstanding | ⟨-, below1⟩
          · exact .inl outstanding
          · exact .inr ⟨empty, by simp [below1, below2]⟩
    · subst one
      rw [exec_cutShortInstruction powered reached inbox, if_pos rfl, cutShortIntervals_one, takeInstructed_closed
        (by exact parity) (by exact (closedBy h).imp_right fun ⟨empty, below⟩ => ⟨empty, by simp [below]⟩)]
      simp only [List.map_cons, List.map_nil, List.foldl_cons, List.foldl_nil, Reckoning.discard, Reckoning.repeated,
        count16_eq_min]
      rfl
  case nothing =>
    refine ⟨fun inbox h => ?_, fun inbox h => ?_⟩
    · rw [exec_reckoningInstruction powered reached inbox, if_neg]
      · rfl
      · rintro ⟨rfl, two⟩
        rcases h with unaligned | low
        · cases unaligned
        · omega
    · rw [exec_cutShortInstruction powered reached inbox]
      rcases h with rfl | rfl
      · rfl
      · rw [cutShortIntervals_zero, List.map_nil, takeInstructed_nil, Guarded.run, ite_self]
        rfl

end Sys2Proof.Machine

/-! SUPPORT. The reckoning unit: the mode, the settlement record and its shares, and how inputs open, fill and make the
pending reckonings (R89 to R112). -/

namespace Sys2Proof.Machine

open Sys2Proof.Safety

/-! ### The mode (R96) -/

theorem modeOf_one (x q : Nat) : modeOf 1 x q = .lone := rfl

theorem modeOf_unpooled {c x q : Nat} (two : 2 ≤ c) (h : c * 100 < q * x) : modeOf c x q = .unpooled := by
  rw [modeOf, if_neg (by omega), if_pos h]

theorem modeOf_pooled {c x q : Nat} (two : 2 ≤ c) (h : q * x ≤ c * 100) : modeOf c x q = .pooled := by
  rw [modeOf, if_neg (by omega), if_neg (by omega)]

/-- Settles O37. -/
theorem modeByQuorum : Obligations.ModeByQuorum := by
  intro c x q one
  refine ⟨fun alone => by rw [alone, modeOf_one], modeOf_unpooled, modeOf_pooled, ?_, fun two full => ?_⟩
  · unfold modeOf
    split <;> simp
  · refine modeOf_pooled two ?_
    rw [mul_comm]
    exact Nat.mul_le_mul_left c full

/-! ### Totals and shares (R100 to R104) -/

theorem supplyTotal_cast (nets : List Int) : (supplyTotal nets : Int) = (nets.map fun n => max n 0).sum := by
  induction nets with
  | nil => rfl
  | cons n nets ih =>
    rw [List.map_cons, List.sum_cons, ← ih, ← Int.ofNat_toNat n]
    rfl

theorem demandTotal_cast (nets : List Int) : (demandTotal nets : Int) = (nets.map fun n => max (-n) 0).sum := by
  induction nets with
  | nil => rfl
  | cons n nets ih =>
    rw [List.map_cons, List.sum_cons, ← ih, ← Int.ofNat_toNat (-n)]
    rfl

section
variable (own : OwnRecord) (list : ParticipantList)

theorem own_le_supplyTotal : own.exportWh - own.importWh ≤ supplyTotal (netsOf own list) := by
  rw [← netOf_toNat]
  exact Nat.le_add_right ..

theorem own_le_demandTotal : own.importWh - own.exportWh ≤ demandTotal (netsOf own list) := by
  rw [← neg_netOf_toNat]
  exact Nat.le_add_right ..

/-- Alone, a household has no one to share with. -/
theorem totals_of_alone (alone : list.counted = []) :
    min (supplyTotal (netsOf own list)) (demandTotal (netsOf own list)) = 0 := by
  have supply : supplyTotal (netsOf own list) = own.exportWh - own.importWh := by
    rw [netsOf, alone, ← netOf_toNat]
    rfl
  have demand : demandTotal (netsOf own list) = own.importWh - own.exportWh := by
    rw [netsOf, alone, ← neg_netOf_toNat]
    rfl
  omega

end

theorem roleOf_seller {exportWh importWh : Nat} (h : importWh < exportWh) :
    roleOf (netOf exportWh importWh) = .seller := if_pos (by unfold netOf; omega)

theorem roleOf_buyer {exportWh importWh : Nat} (h : exportWh < importWh) :
    roleOf (netOf exportWh importWh) = .buyer := by
  rw [roleOf, if_neg (by unfold netOf; omega), if_pos (by unfold netOf; omega)]

theorem roleOf_idle {exportWh importWh : Nat} (h : exportWh = importWh) :
    roleOf (netOf exportWh importWh) = .idle := by
  rw [roleOf, if_neg (by unfold netOf; omega), if_neg (by unfold netOf; omega)]

section
variable {p : Prices} {mode : Mode} {net : Int} {supply demand : Nat}

theorem priceBlock_of_seller (h : roleOf net = .seller) : priceBlock p mode net supply demand =
    some (sellerBlock p (matchedOf mode (min supply demand) net.toNat supply)
      (net.toNat - matchedOf mode (min supply demand) net.toNat supply)) := by
  simp only [priceBlock, h]

theorem priceBlock_of_buyer (h : roleOf net = .buyer) : priceBlock p mode net supply demand =
    some (buyerBlock p (matchedOf mode (min supply demand) (-net).toNat demand)
      ((-net).toNat - matchedOf mode (min supply demand) (-net).toNat demand)) := by
  simp only [priceBlock, h]

theorem priceBlock_eq_none : priceBlock p mode net supply demand = none ↔ roleOf net = .idle := by
  unfold priceBlock
  split <;> simp_all

theorem matchedOf_pooled (matched own side : Nat) : matchedOf .pooled matched own side = matched * own / side := rfl

/-- A share of the matched energy is no more than all of it. -/
theorem matchedOf_le_matched {matched own side : Nat} (h : own ≤ side) : matchedOf mode matched own side ≤ matched := by
  unfold matchedOf
  split
  · exact Nat.div_le_of_le_mul (by rw [mul_comm side]; exact Nat.mul_le_mul_left matched h)
  · exact Nat.zero_le matched

end

section
variable {s : State} {g : Configuration} (h : s.reckoning.inForce = some g)
include h

theorem State.quorum_of_inForce : s.quorum = g.quorum := by simp [State.quorum, h]

theorem State.levy_of_inForce : s.levy = g.levy := by simp [State.levy, h]

theorem State.price_of_inForce (band k : Nat) : s.price band k = g.prices.getD (5 * band + k) 0 := by
  simp [State.price, h]

theorem State.band_of_inForce (j : Nat) : s.band (hourOfDay s.reckonedCode j) =
    g.bandMap.getD (j % (86400 / intervalLength g.lengthCode) * intervalLength g.lengthCode / 3600) 0 := by
  simp [State.band, State.reckonedCode, h, hourOfDay]

end

/-- The price block of a settlement record is that of its own mode, band and supply state. -/
theorem State.settlement_price {s : State} {j : Nat} {kind : ReckoningKind} {own : OwnRecord}
    {answer : Option SupplyRecord} {list : ParticipantList} {x : SettlementRecord}
    (hx : x = s.settlement j kind own answer list) :
    x.price = priceBlock (s.prices x.band x.supplyState) x.mode (netOf own.exportWh own.importWh)
      (supplyTotal (netsOf own list)) (demandTotal (netsOf own list)) := by
  subst hx
  rfl

/-- Settles O38: the record's fields one by one, then its energy by the role. -/
theorem sharesOfASettlement : Obligations.SharesOfASettlement := by
  refine ⟨?fields, ?energy⟩
  case fields =>
    rintro s j kind own answer list x supply demand nets rfl rfl hSupply hDemand
    have supplied : supplyTotal (netsOf own list) = supply :=
      Int.natCast_inj.mp ((supplyTotal_cast _).trans hSupply.symm)
    have demanded : demandTotal (netsOf own list) = demand :=
      Int.natCast_inj.mp ((demandTotal_cast _).trans hDemand.symm)
    refine ⟨supplied, demanded, rfl, rfl, rfl, rfl, decide_eq_true_iff, rfl, rfl, roleOf_seller, roleOf_buyer,
      roleOf_idle, priceBlock_eq_none, fun lone => if_pos lone, fun many => ?_, ?_, fun fresh => ?_⟩
    · rw [← supplied, ← demanded]
      exact if_neg many
    · rintro g _ inForce rfl
      exact ⟨s.quorum_of_inForce inForce, s.levy_of_inForce inForce, s.band_of_inForce inForce j,
        s.price_of_inForce inForce _⟩
    · exact ⟨by simp [State.settlement, State.band, fresh], fun k => by simp [State.price, fresh]⟩
  case energy =>
    rintro s j kind own answer list x b supply demand hx hb rfl rfl
    have lone : x.mode = .lone →
        x.village = none ∧ min (supplyTotal (netsOf own list)) (demandTotal (netsOf own list)) = 0 := by
      subst hx
      refine fun alone => ⟨if_pos alone, totals_of_alone own list ?_⟩
      have one : 1 + list.counted.length = 1 := by
        by_contra many
        have mode : modeOf (1 + list.counted.length) (1 + list.expected) s.quorum = .lone := alone
        rw [modeOf, if_neg many] at mode
        split at mode <;> cases mode
      exact List.length_eq_zero_iff.mp (by omega)
    rcases lt_trichotomy own.importWh own.exportWh with sells | level | buys
    · have role : x.role = .seller := hx ▸ roleOf_seller sells
      rw [State.settlement_price hx, priceBlock_of_seller (roleOf_seller sells), netOf_toNat] at hb
      obtain rfl := Option.some_inj.mp hb
      have share := matchedOf_le x.mode (own := own.exportWh - own.importWh)
        (min_le_left (supplyTotal (netsOf own list)) (demandTotal (netsOf own list)))
      refine ⟨?_, matchedOf_le_matched (own_le_supplyTotal own list), fun pooled => ⟨fun _ => ?_, fun buyer => ?_⟩,
        fun unpooled => ⟨matchedOf_of_ne_pooled unpooled .., fun _ => ⟨?_, rfl, ?_⟩, fun buyer => ?_⟩, lone⟩
      · simp only [sellerBlock]
        omega
      · simp only [sellerBlock, pooled, matchedOf_pooled]
      · simp [role] at buyer
      · simp [sellerBlock, matchedOf_of_ne_pooled unpooled]
      · simp [sellerBlock, matchedOf_of_ne_pooled unpooled, State.prices]
      · simp [role] at buyer
    · have idle : x.price = none := by
        rw [hx]
        exact priceBlock_eq_none.mpr (roleOf_idle level.symm)
      cases idle.symm.trans hb
    · have role : x.role = .buyer := hx ▸ roleOf_buyer buys
      rw [State.settlement_price hx, priceBlock_of_buyer (roleOf_buyer buys), neg_netOf_toNat] at hb
      obtain rfl := Option.some_inj.mp hb
      have share := matchedOf_le x.mode (own := own.importWh - own.exportWh)
        (min_le_right (supplyTotal (netsOf own list)) (demandTotal (netsOf own list)))
      refine ⟨?_, matchedOf_le_matched (own_le_demandTotal own list), fun pooled => ⟨fun seller => ?_, fun _ => ?_⟩,
        fun unpooled => ⟨matchedOf_of_ne_pooled unpooled .., fun seller => ?_, fun _ => ⟨?_, rfl, ?_⟩⟩, lone⟩
      · simp only [buyerBlock]
        omega
      · simp [role] at seller
      · simp only [buyerBlock, pooled, matchedOf_pooled]
      · simp [role] at seller
      · simp [buyerBlock, matchedOf_of_ne_pooled unpooled]
      · simp [buyerBlock, matchedOf_of_ne_pooled unpooled, State.prices]

end Sys2Proof.Machine

/-! SUPPORT. The pending reckonings: how inputs open and fill them, and what is made of one that has all its inputs (R89
to R94, R109, R112). -/

namespace Sys2Proof.Machine

open Sys2Proof.Safety

/-! ### Inputs of a pending reckoning (R91, R93) -/

/-- A pending reckoning that still awaits an input. -/
def PendingReckoning.Incomplete (p : PendingReckoning) : Prop :=
  p.kind = none ∨ p.own = none ∨ p.supply = none ∨ p.list = none

section
variable {s t : State} {order j : Nat} {i : ReckoningInput} {p q : PendingReckoning} {ps : List PendingReckoning}

theorem fillPending_here (interval : p.interval = j) (awaits : p.awaits i = true) :
    fillPending j i (p :: ps) = some (p.take i :: ps) := if_pos ⟨interval, awaits⟩

theorem fillPending_later (h : ¬ (p.interval = j ∧ p.awaits i = true)) :
    fillPending j i (p :: ps) = (fillPending j i ps).map (p :: ·) := if_neg h

/-- Nothing is made while the first reckoning awaits an input (R93). -/
theorem makeReady_waits (pending : s.reckoning.pending = p :: ps) (h : p.Incomplete) (fuel : Nat) :
    s.makeReady fuel = .done s := by
  cases fuel with
  | zero => rfl
  | succ fuel =>
    obtain ⟨interval, order, kind, own, supply, list⟩ := p
    unfold State.makeReady
    rw [pending]
    rcases h with h | h | h | h <;> cases h <;> simp

/-- The first reckoning is made once it has all its inputs, and then those behind it. -/
theorem makeReady_complete {k : Nat} {kind : ReckoningKind} {own : Option OwnRecord} {answer : Option SupplyRecord}
    {list : ParticipantList} (pending : s.reckoning.pending = ⟨j, k, some kind, some own, some answer, some list⟩ :: ps)
    (fuel : Nat) : s.makeReady (fuel + 1) =
      (State.reckon j kind own answer list (s.setReckoning { s.reckoning with pending := ps })).andThen
        (State.makeReady fuel) := by
  rw [State.makeReady, pending]

theorem andThen_done (g : Guarded) : g.andThen .done = g := by cases g <;> rfl

theorem makeReady_zero : State.makeReady 0 = .done := rfl

/-- An input that fills a reckoning behind which nothing is complete only joins it. -/
theorem takeInput_joins (filled : fillPending j i s.reckoning.pending = some (p :: ps)) (h : p.Incomplete) :
    s.takeInput order j i = .done (s.setReckoning { s.reckoning with pending := p :: ps }) := by
  rw [State.takeInput, filled]
  exact makeReady_waits rfl h _

theorem takeInput_fills (filled : fillPending j i s.reckoning.pending = some ps) :
    s.takeInput order j i = (s.setReckoning { s.reckoning with pending := ps }).makeReady ps.length := by
  rw [State.takeInput, filled]

/-- An input that completes the first reckoning makes it, and then those behind it. -/
theorem takeInput_makes {j' k : Nat} {kind : ReckoningKind} {own : Option OwnRecord} {answer : Option SupplyRecord}
    {list : ParticipantList} (filled : fillPending j i s.reckoning.pending =
      some ({ interval := j', order := k, kind := some kind, own := some own, supply := some answer
              list := some list } :: ps)) :
    s.takeInput order j i = (State.reckon j' kind own answer list
      (s.setReckoning { s.reckoning with pending := ps })).andThen (State.makeReady ps.length) := by
  rw [takeInput_fills filled]
  exact makeReady_complete rfl _

theorem takeInputs_cons (taken : s.takeInput order j i = .done t) (rest : List (Nat × ReckoningInput)) :
    s.takeInputs order ((j, i) :: rest) = t.takeInputs order rest := by
  rw [State.takeInputs, taken, Guarded.andThen]

theorem takeInputs_last : s.takeInputs order [(j, i)] = s.takeInput order j i := by
  rw [State.takeInputs]
  exact andThen_done _

end

/-! ### The instruction of a boundary (R89, R91, R92) -/

section
variable {s : State} {order j : Nat} {own : Option OwnRecord} {answer : Option SupplyRecord}

/-- The instruction of a boundary opens a pending reckoning before those of later notifications, and its two answers
join it. -/
theorem takeInputs_regular {later : List PendingReckoning} (parity : s.reckoning.lastParity = true)
    (pending : s.reckoning.pending = later)
    (behind : ∀ p ∈ later, p.interval ≠ j ∧ order < p.order) (above : ∀ l, s.reckoning.last = some l → l < j) :
    s.takeInputs order [(j, .instruction .regular), (j, .own own), (j, .supply answer)] =
      .done (s.setReckoning { s.reckoning with
        pending := { interval := j, order := order, kind := some .regular, own := some own, supply := some answer
                     list := none } :: later }) := by
  have unawaited : fillPending j (.instruction .regular) s.reckoning.pending = none := by
    rw [pending]
    clear pending
    induction later with
    | nil => rfl
    | cons p ps ih =>
      rw [fillPending_later fun h => (behind p List.mem_cons_self).1 h.1,
        ih fun q hq => behind q (List.mem_cons_of_mem _ hq), Option.map_none]
  have front : insertPending ((PendingReckoning.opened order j).take (.instruction .regular)) later =
      (PendingReckoning.opened order j).take (.instruction .regular) :: later := by
    cases later with
    | nil => rfl
    | cons p ps => exact if_neg (not_le.mpr (behind p List.mem_cons_self).2)
  have opened := takeInput_opens (order := order) parity unawaited above
  rw [pending, front] at opened
  rw [takeInputs_cons opened, takeInputs_cons (takeInput_joins (fillPending_here rfl rfl) (.inr (.inr (.inl rfl)))),
    takeInputs_last, takeInput_joins (fillPending_here rfl rfl) (.inr (.inr (.inr rfl)))]
  rfl

end

/-- Settles O41: with nothing pending, and before the reckoning of a later notification. -/
theorem instructionOpensAReckoning : Obligations.InstructionOpensAReckoning := by
  rintro s k n rest p powered two current inbox parity above rfl
  have taken := exec_reckoningInstruction powered le_rfl inbox
  rw [if_pos ⟨rfl, two⟩, State.instruct, takeInstructed_current (by exact current)] at taken
  refine ⟨fun empty => ?_, fun later one other after => ?_⟩
  · rw [taken, takeInputs_regular (later := []) (by exact parity) (by exact empty) (by simp) (by exact above)]
    rfl
  · rw [taken, takeInputs_regular (later := [later]) (by exact parity) (by exact one) (by simp [other, after])
      (by exact above)]
    rfl

/-! ### What is made of a reckoning (R93, R94, R109, R112) -/

section
variable {s : State} {j : Nat} {kind : ReckoningKind} {own : Option OwnRecord} {answer : Option SupplyRecord}
  {list : ParticipantList}

theorem reckon_failed (parity : s.reckoning.lastParity = false) : s.reckon j kind own answer list = .failed s := by
  simp [State.reckon, parity]

section
variable (parity : s.reckoning.lastParity = true)
include parity

theorem reckon_closed {l : Nat} (last : s.reckoning.last = some l) (le : j ≤ l) :
    s.reckon j kind own answer list = .done (s.setReckoning { s.reckoning with
      repeats := min 65535 (s.reckoning.repeats + 1) }) := by
  simp [State.reckon, parity, closedTo_eq_true last le, Reckoning.repeated, count16_eq_min]

theorem reckon_no_figure (above : ∀ l, s.reckoning.last = some l → l < j) :
    s.reckon j kind none answer list = .done (s.setReckoning { s.reckoning with
      last := some j, noFigure := min 65535 (s.reckoning.noFigure + 1) }) := by
  simp [State.reckon, parity, closedTo_eq_false above, Reckoning.reached, count16_eq_min]
  rfl

theorem reckon_settles (above : ∀ l, s.reckoning.last = some l → l < j) (x : OwnRecord) :
    s.reckon j kind (some x) answer list =
      (s.setReckoning { s.reckoning with last := some j }).settle j kind x answer list := by
  simp [State.reckon, parity, closedTo_eq_false above, Reckoning.reached]

end

/-- A settlement is posted and its results reach the outputs: held in HOLD-UP, else with the duty and SHT they give
(R109, R149). -/
theorem settle_posts {x : OwnRecord} (parity : s.account.parity = true) :
    s.settle j kind x answer list = .done (State.post (s.settlement j kind x answer list)
      (s.takeResult (resultOf (s.settlement j kind x answer list) x list))) := by
  obtain ⟨o, taken, -⟩ := State.takeResult_frame (resultOf (s.settlement j kind x answer list) x list) s
  rw [State.settle]
  exact if_pos (by rw [taken]; exact parity)

end

/-- An input that completes a reckoning leaves it with all four. -/
theorem fillPending_completes {j k : Nat} {kind : ReckoningKind} {own : Option OwnRecord}
    {answer : Option SupplyRecord} {list : ParticipantList} {i : ReckoningInput} {ready p : PendingReckoning}
    (hr : ready = { interval := j, order := k, kind := some kind, own := some own, supply := some answer
                    list := some list })
    (hp : (p = { ready with kind := none } ∧ i = .instruction kind) ∨ (p = { ready with own := none } ∧ i = .own own) ∨
      (p = { ready with supply := none } ∧ i = .supply answer) ∨ (p = { ready with list := none } ∧ i = .list list))
    (ps : List PendingReckoning) : fillPending j i (p :: ps) = some (ready :: ps) := by
  subst hr
  rcases hp with ⟨rfl, rfl⟩ | ⟨rfl, rfl⟩ | ⟨rfl, rfl⟩ | ⟨rfl, rfl⟩ <;> exact fillPending_here rfl rfl

/-- Settles O42: what is made of one reckoning, which input makes it, and where a failed check ends the event. -/
theorem droppedAndNoFigureReckonings : Obligations.DroppedAndNoFigureReckonings := by
  intro s j kind answer list parity
  refine ⟨fun l own last le => reckon_closed parity last le, reckon_no_figure parity, ?settled, ?completed, ?boundary,
    fun order i rest t taken => takeInputs_cons taken rest, ?opened, ⟨rfl, ?failed, ?pending, ?parity⟩, fun _ => rfl,
    rfl, rfl, fun o two => cutShortIntervals_of_two_le two⟩
  case settled =>
    rintro own x above account hx
    have settled : s.reckon j kind (some own) answer list = .done
        (((s.setReckoning { s.reckoning with last := some j }).takeResult (resultOf x own list)).post x) := by
      rw [reckon_settles parity above, settle_posts (by exact account), hx]
      rfl
    have level := limLevel_evaluated s (s.account.ledger.figures.posted x).balance
    have held : some (resultOf x own list) = some {
        mode := x.mode, supply := supplyTotal (netsOf own list), demand := demandTotal (netsOf own list)
        role := x.role, unmatched := (x.price.map (·.unmatched)).getD 0 } := rfl
    by_cases op : s.supervisor.op = .holdUp
    · have taken (u : State) (hu : u.supervisor = s.supervisor) : u.takeResult (resultOf x own list) =
          u.setOutputs { u.outputs with held := some (resultOf x own list) } := if_pos (hu ▸ op)
      rw [taken (s.setReckoning { s.reckoning with last := some j }) rfl, State.post_frame] at settled
      exact ⟨_, settled, rfl, level, held, fun other => absurd op other, fun _ => ⟨rfl, rfl⟩⟩
    · have taken (u : State) (hu : u.supervisor = s.supervisor) : u.takeResult (resultOf x own list) =
          u.setOutputs { u.outputs with
            held := some (resultOf x own list), duty := dutyOf (some (resultOf x own list))
            sht := shtOf (some (resultOf x own list)) } := if_neg (hu ▸ op)
      rw [taken (s.setReckoning { s.reckoning with last := some j }) rfl, State.post_frame] at settled
      exact ⟨_, settled, rfl, level, held, fun _ => ⟨rfl, rfl⟩, fun other => absurd other op⟩
  case completed =>
    intro order k own i ready p hr hp
    refine ⟨fun pending => ?_, fun next kind' own' answer' list' t hn pending made => ?_,
      fun first incomplete other pending => ?_⟩
    · rw [takeInput_makes (by rw [pending, fillPending_completes hr hp [], hr])]
      exact andThen_done _
    · rw [takeInput_makes (by rw [pending, fillPending_completes hr hp [next], hr])]
      have left : t.reckoning.pending = [next] := reckon_pending made
      rw [hn] at left
      refine (congrArg (Guarded.andThen · _) made).trans ?_
      exact (makeReady_complete left 0).trans (andThen_done _)
    · have filled : fillPending j i s.reckoning.pending = some [first, ready] := by
        rw [pending, fillPending_later fun h => other h.1, fillPending_completes hr hp []]
        rfl
      exact takeInput_joins filled incomplete
  case boundary =>
    rintro k n e rest first powered current two rfl rfl inbox rfl pending
    rw [exec_reckoningInstruction powered le_rfl inbox, if_pos ⟨rfl, two⟩, State.instruct,
      takeInstructed_current (by exact current),
      takeInputs_cons (takeInput_joins (by exact pending ▸ fillPending_here rfl rfl) (.inr (.inl rfl))),
      takeInputs_cons (takeInput_joins (fillPending_here rfl rfl) (.inr (.inr (.inl rfl)))), takeInputs_last,
      takeInput_makes (fillPending_here rfl rfl), List.length_nil, makeReady_zero, andThen_done]
    rfl
  case opened => exact fun order p hp => ⟨hp, rfl, fun _ => rfl, rfl, rfl⟩
  case failed =>
    intro idle
    have reset := parityReset_of_idle idle
    exact ⟨_, rfl, reset.op, reset.last, reset.leaves⟩
  case pending => exact parityFault_busy s
  case parity =>
    rintro own u rfl
    exact reckon_failed rfl

end Sys2Proof.Machine

/-! SUPPORT. The account, the settlement queue and the indicator outputs (R135 to R154). -/

namespace Sys2Proof.Machine

open Sys2Proof.Safety

/-! ### Posting (R135 to R138, R145) -/

section
variable (f : PeriodFigures) (x : SettlementRecord)

/-- The counts after a posting, each by the record's mode or its CUT-SHORT flag. -/
theorem posted_counts : (f.posted x).pooled = (if x.mode = .pooled then min 4294967295 (f.pooled + 1) else f.pooled) ∧
    (f.posted x).unpooled = (if x.mode = .unpooled then min 4294967295 (f.unpooled + 1) else f.unpooled) ∧
    (f.posted x).lone = (if x.mode = .lone then min 4294967295 (f.lone + 1) else f.lone) ∧
    (f.posted x).cutShort = (if x.cutShort = true then min 4294967295 (f.cutShort + 1) else f.cutShort) := by
  have same : (f.priced x.price).pooled = f.pooled ∧ (f.priced x.price).unpooled = f.unpooled ∧
      (f.priced x.price).lone = f.lone ∧ (f.priced x.price).cutShort = f.cutShort := by
    unfold PeriodFigures.priced
    split
    · split <;> exact ⟨rfl, rfl, rfl, rfl⟩
    · exact ⟨rfl, rfl, rfl, rfl⟩
  obtain ⟨pooled, unpooled, lone, cutShort⟩ := same
  simp only [PeriodFigures.posted, PeriodFigures.counted, pooled, unpooled, lone, cutShort, count32_eq_min, and_self]

end

section
variable {f : PeriodFigures} {x : SettlementRecord} {b : PriceBlock}

theorem posted_of_no_price (h : x.price = none) : f.posted x = { f with
    pooled := (f.posted x).pooled, unpooled := (f.posted x).unpooled, lone := (f.posted x).lone
    cutShort := (f.posted x).cutShort } := by
  rw [PeriodFigures.posted, h]
  rfl

theorem posted_of_credit (h : x.price = some b) (hd : b.direction = .credit) :
    f.posted x = (f.credit b).counted x.mode x.cutShort := by
  simp only [PeriodFigures.posted, PeriodFigures.priced, h, hd]

theorem posted_of_charge (h : x.price = some b) (hd : b.direction = .charge) :
    f.posted x = (f.charge b).counted x.mode x.cutShort := by
  simp only [PeriodFigures.posted, PeriodFigures.priced, h, hd]

theorem enter_of_room {q : SettlementQueue} (room : q.records.length < 24) (y : SettlementRecord) :
    q.enter y = { records := q.records ++ [y], lost := q.lost } := if_pos room

theorem enter_of_full {q : SettlementQueue} {oldest : SettlementRecord} {kept : List SettlementRecord}
    (full : 24 ≤ q.records.length) (records : q.records = oldest :: kept) (y : SettlementRecord) :
    q.enter y = { records := kept ++ [y], lost := min 65535 (q.lost + 1) } := by
  rw [SettlementQueue.enter, if_neg (not_lt.mpr full), records, count16_eq_min]
  rfl

end

/-- Settles O43: the counts, the frame and the queue of a posting, then its two directions. -/
theorem postingMovesTheBalance : Obligations.PostingMovesTheBalance := by
  refine ⟨?every, ?priced⟩
  case every =>
    rintro s x f _ y rfl rfl rfl
    obtain ⟨pooled, unpooled, lone, cutShort⟩ := posted_counts s.account.ledger.figures x
    exact ⟨pooled, unpooled, lone, cutShort, posted_of_no_price, _, _, s.post_frame x, limLevel_evaluated .., rfl, rfl,
      fun room => enter_of_room room _, fun oldest kept full records => enter_of_full full records _⟩
  case priced =>
    rintro s x b f _ price rfl rfl
    refine ⟨fun credit => ?_, fun charge => ?_, SettlementQueue.enter_getLast? ..⟩
    · rw [State.post_frame]
      simp only [posted_of_credit price credit]
      exact ⟨rfl, rfl, rfl, rfl, rfl, rfl, rfl, rfl,
        by simp [PeriodFigures.counted, PeriodFigures.credit, balanceLimit, moneyLimit, or_assoc]⟩
    · rw [State.post_frame]
      simp only [posted_of_charge price charge]
      exact ⟨rfl, rfl, rfl, rfl, rfl, rfl, rfl, rfl,
        by simp [PeriodFigures.counted, PeriodFigures.charge, balanceLimit, moneyLimit, or_assoc]⟩

/-! ### The duty and the SUR generator (R150, R151) -/

/-- SUR is high in the first b steps of a period, and in one more where the period's number is below e. -/
theorem high_iff {o : Outputs} :
    o.high = true ↔ o.step < o.base + if o.period < o.extension then 1 else 0 := by
  simp only [Outputs.high, Bool.or_eq_true, Bool.and_eq_true, decide_eq_true_eq]
  split <;> omega

theorem countP_range_lt (m n : Nat) : (List.range n).countP (fun i => decide (i < m)) = min m n := by
  induction n with
  | zero => simp
  | succ n ih =>
    rw [List.range_succ, List.countP_append, ih, List.countP_singleton]
    split
    case isTrue lt =>
      have := of_decide_eq_true lt
      omega
    case isFalse ge =>
      have := mt decide_eq_true ge
      omega

/-- The high steps of one period, at a base of 255 at most. -/
theorem countP_high (o : Outputs) (base : o.base ≤ 255) :
    (List.range 256).countP (fun n => Outputs.high { o with step := n }) =
      o.base + if o.period < o.extension then 1 else 0 := by
  have bounded : o.base + (if o.period < o.extension then 1 else 0) ≤ 256 := by
    split <;> omega
  rw [← min_eq_left bounded, ← countP_range_lt]
  exact List.countP_congr fun n _ => by simpa using high_iff (o := { o with step := n })

/-- Settles O44: the four periods of a frame hold four times the base and one step for each period below the
extension. -/
theorem dutyAndItsFrame : Obligations.DutyAndItsFrame := by
  refine ⟨fun h => ⟨rfl, dutyOf_le _, fun pooled above => if_pos ⟨pooled, above⟩, fun no => if_neg ?_⟩,
    fun o inRange => ?_⟩
  · rintro ⟨pooled, above⟩
    rcases no with other | below
    · exact other pooled
    · omega
  · have period (j : Nat) : (List.range 256).countP (fun n =>
        Outputs.high { o with base := o.duty / 4, extension := o.duty % 4, period := j, step := n }) =
          o.duty / 4 + if j < o.duty % 4 then 1 else 0 :=
      countP_high { o with base := o.duty / 4, extension := o.duty % 4, period := j } (by dsimp only; omega)
    have periods : List.range 4 = [0, 1, 2, 3] := rfl
    simp only [period, periods, List.map_cons, List.map_nil, List.sum_cons, List.sum_nil]
    split_ifs <;> omega

theorem exec_surGeneratorStep {s : State} (powered : s.supervisor.powered = true)
    (latched : s.outputs.frameStartDue = false) : exec .surGeneratorStep s = .next (s.setOutputs (
      if s.outputs.step < 255 then { s.outputs with sur := s.outputs.high, step := s.outputs.step + 1 }
      else if s.outputs.period < 3 then
        { s.outputs with sur := s.outputs.high, step := 0, period := s.outputs.period + 1 }
      else { s.outputs with sur := s.outputs.high, step := 0, period := 0, frameStartDue := true })) := by
  simp only [exec, execSurGeneratorStep, whenPowered_on powered]
  simp only [Outputs.advance, latched, Bool.false_eq_true, if_false]

/-- Settles O45. -/
theorem surGeneratorSteps : Obligations.SurGeneratorSteps := by
  intro s powered
  refine ⟨fun due => ?_, fun latched within => ⟨s.outputs.high, ?_, high_iff⟩,
    fun latched last => ⟨s.outputs.high, by rw [high_iff, last], fun before => ?_, fun third => ?_⟩⟩
  · simp only [exec, execSurFrameStart, whenPowered_on powered, due, if_true]
    rfl
  · rw [exec_surGeneratorStep powered latched, if_pos within]
    rfl
  · rw [exec_surGeneratorStep powered latched, if_neg (by omega), if_pos before]
    rfl
  · rw [exec_surGeneratorStep powered latched, if_neg (by omega), if_neg (by omega)]
    rfl

/-! ### The household lines (R152 to R154) -/

theorem shtOf_iff (h : HeldResult) : shtOf (some h) = true ↔ h.role = .buyer ∧ 0 < h.unmatched := by
  simp [shtOf]

/-- The level an evaluation of LIM gives is the only one the rules allow (R153, R154). -/
theorem limLevel_unique {s : State} {balance : Int} {lim : Bool} (h : LimLevel s balance lim) :
    lim = (s.supervisor.op != .holdUp && limOf s.limitFloor balance) := by
  by_cases op : s.supervisor.op = .holdUp
  · rw [h.inactive (.inr op)]
    simp [op]
  · cases working : s.store.working with
    | none =>
      rw [h.inactive (.inl working)]
      simp [State.limitFloor, State.config, working, limOf]
    | some w =>
      rw [h.evaluated w working op]
      simp [State.limitFloor, State.config, working, limOf, op]

/-- Settles O46. -/
theorem householdLines : Obligations.HouseholdLines := by
  refine ⟨⟨rfl, shtOf_iff⟩, fun s lim powered floor fresh holdUp => ?_⟩
  have level : LimLevel s s.account.ledger.figures.balance lim :=
    ⟨floor, fun h => h.elim fresh holdUp⟩
  rw [limLevel_unique level]
  refine ⟨fun due => ?_, fun outstanding => ?_, fun rest power => ?_, fun rest power => ?_⟩
  · simp only [exec, execStartEndLim, whenPowered_on powered, due, if_true]
    rfl
  · simp only [exec, execLimConfigurationWrite, whenPowered_on powered, completionDue_iff.mpr outstanding, if_true]
    rfl
  · simp only [exec, execOutputsHoldUpEntry, whenPowered_on powered, power]
    rfl
  · simp only [exec, execOutputsHoldUpExit, whenPowered_on powered, power]
    rfl

end Sys2Proof.Machine

/-! SUPPORT. Supply sense: conversions, the reference check, the supply records, HOLD-UP and commissioning (R115 to
R130). -/

namespace Sys2Proof.Machine

open Sys2Proof.Safety

/-! ### The parameters of supply sense (R121, R160) -/

section
variable {s : State} {w : Working}

theorem State.accumulation_of_working (h : s.store.working = some w) :
    s.accumulation = 2 ^ w.record.accumulationCode := by
  simp [State.accumulation, State.config, h]

theorem State.accumulation_of_fresh (h : s.store.working = none) : s.accumulation = 16 := by
  simp [State.accumulation, State.config, h]

theorem State.window_of_working (h : s.store.working = some w) :
    s.windowLow = w.record.windowLow ∧ s.windowHigh = w.record.windowHigh := by
  simp [State.windowLow, State.windowHigh, State.config, h]

theorem State.window_of_fresh (h : s.store.working = none) : s.windowLow = 0 ∧ s.windowHigh = 65535 := by
  simp [State.windowLow, State.windowHigh, State.config, h]

theorem State.strain_of_working (h : s.store.working = some w) : s.strain = w.record.strain := by
  simp [State.strain, State.config, h]

theorem State.strain_of_fresh (h : s.store.working = none) : s.strain = 15 := by
  simp [State.strain, State.config, h]

end

/-! ### Conversions (R115 to R120) -/

/-- Settles O47. -/
theorem conversionsStart : Obligations.ConversionsStart := by
  intro s powered
  refine ⟨fun settling expired free => ?_, fun ready due => ?_, fun converting due => ?_,
    fun settling expired busy => ?_, fun w => State.accumulation_of_working, State.accumulation_of_fresh⟩
  · simp only [exec, execSettlingTimerExpiry, whenPowered_on powered]
    rw [if_pos ⟨settling, expired⟩, free]
    rfl
  · simp only [exec, execStartEvent, whenPowered_on powered, due, if_true]
    simp only [Supply.startEvent, ready]
    rfl
  · simp only [exec, execStartEvent, whenPowered_on powered, due, if_true]
    simp only [Supply.startEvent, converting, count16_eq_min]
    rfl
  · have inFlight : s.supply.flight.isNone = false := by
      simpa [← Option.not_isSome, Option.isSome_iff_ne_none] using busy
    simp only [exec, execSettlingTimerExpiry, whenPowered_on powered]
    rw [if_pos ⟨settling, expired⟩, inFlight]
    rfl

section
variable {s : State} {x : Conversion} {sum : Nat} (powered : s.supervisor.powered = true)
  (flight : s.supply.flight = some x) (due : x.due = s.meter.timebase)
include powered flight due

/-- A conversion with the discard mark, or in flight when a configuration write completed, is only counted (R119,
R121). -/
theorem exec_conversionComplete_discarded (h : x.discard = true ∨ x.completions < s.store.completions) :
    exec (.conversionComplete sum) s = .next (s.setSupply (Supply.freed
      { s.supply with flight := none, discarded := min 65535 (s.supply.discarded + 1) } s.startTerms)) := by
  have marked : (x.discard || s.completionDue x.completions) = true := by
    simpa [State.completionDue] using h
  simp only [exec, execConversionComplete, whenPowered_on powered, flight]
  rw [if_pos (by simp [reached, due]), if_pos marked, Supply.discard, count16_eq_min]

/-- A conversion that counts is taken by its channel. -/
theorem exec_conversionComplete_taken {u : Supply} (possible : sum ≤ x.accumulation * 4095)
    (unmarked : x.discard = false) (current : s.store.completions ≤ x.completions)
    (feeder : x.channel = .feeder → u = Supply.feederDone { s.supply with flight := none }
      (conversionResult x.accumulation sum)
      (feederClass s.windowLow s.windowHigh (conversionResult x.accumulation sum)))
    (reference : x.channel = .reference → u = Supply.referenceDone { s.supply with flight := none } x.accumulation
      (conversionResult x.accumulation sum)) :
    exec (.conversionComplete sum) s = .next (s.setSupply (u.freed s.startTerms)) := by
  have counts : ¬ (x.discard || s.completionDue x.completions) = true := by
    simp [unmarked, completionDue_eq_false current]
  simp only [exec, execConversionComplete, whenPowered_on powered, flight]
  rw [if_pos (by simp [reached, due]), if_neg counts, if_neg (by omega)]
  cases channel : x.channel with
  | feeder => rw [feeder channel]
  | reference => rw [reference channel]

end

section
variable {u : Supply} {t : StartTerms}

theorem freed_of_converting (h : u.converter = .converting) : u.freed t = { u with converter := .ready } := by
  simp only [Supply.freed, h]

theorem freed_of_halted (h : u.converter = .halted) : u.freed t = u := by
  simp only [Supply.freed, h]

theorem freed_of_settling {n : Nat} (h : u.converter = .settling) (timer : u.settling = .running n) :
    u.freed t = u := by
  simp [Supply.freed, h, timer]

theorem freed_of_expired (h : u.converter = .settling) (timer : u.settling = .expired) : u.freed t = u.ready t := by
  simp [Supply.freed, h, timer]

end

theorem conversionResult_eq {a sum result : Nat} (small : a ≤ 16 → result = sum)
    (large : 16 < a → result = sum / (a / 16)) : conversionResult a sum = result := by
  unfold conversionResult
  split
  case isTrue h => exact (small h).symm
  case isFalse h => exact (large (not_le.mp h)).symm

theorem feederClass_eq {low high result : Nat} {cls : FeederClass} (sag : result < low → cls = .sag)
    (swell : low ≤ result → high < result → cls = .swell) (normal : low ≤ result → result ≤ high → cls = .normal) :
    feederClass low high result = cls := by
  unfold feederClass
  split_ifs with below above
  · exact (sag below).symm
  · exact (swell (not_lt.mp below) above).symm
  · exact (normal (not_lt.mp below) (not_lt.mp above)).symm

/-- Settles O48. -/
theorem feederConversionsAreClassified : Obligations.FeederConversionsAreClassified := by
  refine ⟨fun s x sum powered flight due => ⟨fun result cls converting possible channel unmarked current small large sag
    swell normal => ?taken, fun marked => ?discarded⟩, fun s => ⟨fun w => State.window_of_working,
    State.window_of_fresh⟩⟩
  case taken =>
    have taken := exec_conversionComplete_taken powered flight due possible unmarked current (fun _ => rfl)
      (by simp [channel])
    rw [conversionResult_eq small large, feederClass_eq sag swell normal, freed_of_converting (by exact converting)]
      at taken
    refine ⟨fun clear => ?_, fun fault => ?_⟩
    · rw [taken]
      simp [Supply.feederDone, clear, OpenRecord.count, count16_eq_min]
      rfl
    · rw [taken]
      simp [Supply.feederDone, fault]
      rfl
  case discarded =>
    have taken := exec_conversionComplete_discarded (sum := sum) powered flight due marked
    refine ⟨fun converting => ?_, fun waits => ?_, fun settling expired => ?_⟩
    · rw [taken, freed_of_converting (by exact converting)]
      rfl
    · rcases waits with halted | ⟨settling, n, timer⟩
      · rw [taken, freed_of_halted (by exact halted)]
        rfl
      · rw [taken, freed_of_settling (by exact settling) (by exact timer)]
        rfl
    · rw [taken, freed_of_expired (by exact settling) (by exact expired)]
      rfl

section
variable {u : Supply} {a r : Nat}

theorem referenceDone_outside (h : r < 1984 * min a 16 ∨ 2112 * min a 16 < r) : u.referenceDone a r = { u with
    lastReference := some r, senseFault := true, inBandRun := 0, refFailures := min 65535 (u.refFailures + 1) } := by
  have outside : inBand a r = false := by
    simp only [inBand, Bool.and_eq_false_iff, decide_eq_false_iff_not]
    omega
  simp [Supply.referenceDone, outside, count16_eq_min]

section
variable (low : 1984 * min a 16 ≤ r) (high : r ≤ 2112 * min a 16)
include low high

theorem inBand_eq_true : inBand a r = true := by simp only [inBand, low, high, decide_true, Bool.and_self]

theorem referenceDone_clear (clear : u.senseFault = false) :
    u.referenceDone a r = { u with lastReference := some r } := by
  simp only [Supply.referenceDone, inBand_eq_true low high, clear, if_true, Bool.false_eq_true, if_false]

theorem referenceDone_first (fault : u.senseFault = true) (run : u.inBandRun = 0) :
    u.referenceDone a r = { u with lastReference := some r, inBandRun := 1 } := by
  simp [Supply.referenceDone, inBand_eq_true low high, fault, run]

theorem referenceDone_second (fault : u.senseFault = true) (run : u.inBandRun = 1) :
    u.referenceDone a r = { u with lastReference := some r, inBandRun := 0, senseFault := false } := by
  simp [Supply.referenceDone, inBand_eq_true low high, fault, run]

end

/-- The check of a reference result does not touch the converter. -/
theorem referenceDone_converter : (u.referenceDone a r).converter = u.converter := by
  unfold Supply.referenceDone
  dsimp only
  split_ifs <;> rfl

theorem referenceDone_flight (f : Option Conversion) :
    Supply.referenceDone { u with flight := f } a r = { u.referenceDone a r with flight := f } := by
  unfold Supply.referenceDone
  dsimp only
  split_ifs <;> rfl

end

/-- Settles O49. -/
theorem referenceCheck : Obligations.ReferenceCheck := by
  refine ⟨fun u a r => ⟨referenceDone_outside, fun low high => ⟨referenceDone_clear low high,
    referenceDone_first low high, referenceDone_second low high⟩⟩,
    fun s x sum result powered converting flight due possible channel unmarked current small large => ?_⟩
  have taken := exec_conversionComplete_taken powered flight due possible unmarked current (by simp [channel])
    fun _ => rfl
  rw [conversionResult_eq small large, referenceDone_flight] at taken
  rw [taken, freed_of_converting (by exact referenceDone_converter.trans converting)]
  rfl

/-! ### The island line and the supply records (R124 to R130) -/

section
variable {o : OpenRecord} {t : Nat} {last : SupplyState}

theorem close_island (h : o.island = true) : o.close t last = (.island, .own) := if_pos h

theorem close_strained (h : o.island = false) (strained : t ≤ o.sag ∨ t ≤ o.swell) :
    o.close t last = (.strained, .own) := by
  simp only [OpenRecord.close, h, Bool.false_eq_true, if_false, if_pos strained]

theorem close_unstrained (h : o.island = false) (sag : o.sag < t) (swell : o.swell < t) :
    o.close t last = if 1 ≤ o.valid then (.grid, .own) else (last, .held) := by
  simp only [OpenRecord.close, h, Bool.false_eq_true, if_false, if_neg (show ¬ (t ≤ o.sag ∨ t ≤ o.swell) by omega)]

end

/-- Settles O50. -/
theorem islandLatchAndClosure : Obligations.IslandLatchAndClosure := by
  refine ⟨fun s powered => ⟨fun low => ?_, ?_⟩, fun s k n a rest powered current inbox => ?_,
    fun s => ⟨fun w => State.strain_of_working, State.strain_of_fresh⟩⟩
  · simp only [exec, execIslAssertion]
    simp [low, powered]
    rfl
  · simp only [exec, execIslAssertion]
    simp
    rfl
  · refine ⟨(s.supply.openRecord.close s.strain s.supply.lastClosed).1,
      (s.supply.openRecord.close s.strain s.supply.lastClosed).2, _, ?_, entersRing_enterRing .., fun island => ?_,
      fun clear strained => ?_, fun clear sag swell => ⟨fun valid => ?_, fun invalid => ?_⟩⟩
    · simp only [exec, execSupplyRecordClosure, whenPowered_on powered]
      simp only [inbox, boundaryFront, Delivery.front_current current]
      rfl
    · rw [close_island island]
      exact ⟨rfl, rfl⟩
    · rw [close_strained clear strained]
      exact ⟨rfl, rfl⟩
    · rw [close_unstrained clear sag swell, if_pos valid]
      exact ⟨rfl, rfl⟩
    · rw [close_unstrained clear sag swell, if_neg (by omega)]
      exact ⟨rfl, rfl⟩

/-- Settles O51. -/
theorem supplyHoldUpAndCommissioning : Obligations.SupplyHoldUpAndCommissioning := by
  intro s rest powered
  refine ⟨fun power => ?_, fun power => ?_, fun outstanding => ?_,
    fun k n a e rest old => ⟨fun inbox => ?_, fun inbox => ?_⟩⟩
  · simp only [exec, execConverterHalt, whenPowered_on powered, power]
    rfl
  · simp only [exec, execConverterResettle, whenPowered_on powered, power]
    rfl
  · simp only [exec, execSupplyCommissioning, whenPowered_on powered, completionDue_iff.mpr outstanding, if_true]
    rfl
  · simp only [exec, execSupplyRecordClosure, whenPowered_on powered]
    simp only [inbox, boundaryFront, Delivery.front_old old]
    rfl
  · simp only [exec, execSupplyJumpHandover, whenPowered_on powered]
    simp only [inbox, jumpFront, Delivery.front_old old]
    rfl

end Sys2Proof.Machine

/-! SUPPORT. Byte order, fields of concatenated bytes and the 16-bit check (R210, R211). -/

namespace Sys2Proof.Machine

open Sys2Proof.Safety

/-! ### Numbers as bytes (R210) -/

@[simp] theorem beNat_nil : beNat [] = 0 := rfl

theorem foldl_beNat (bs : List Byte) (n : Nat) :
    bs.foldl (fun acc b => acc * 256 + b.toNat) n = n * 256 ^ bs.length + beNat bs := by
  induction bs generalizing n with
  | nil => simp
  | cons b bs ih =>
    have first : beNat (b :: bs) = bs.foldl (fun acc b => acc * 256 + b.toNat) (0 * 256 + b.toNat) := rfl
    rw [List.foldl_cons, ih, first, ih (0 * 256 + b.toNat), List.length_cons, pow_succ]
    ring

theorem beNat_cons (b : Byte) (bs : List Byte) : beNat (b :: bs) = b.toNat * 256 ^ bs.length + beNat bs := by
  rw [beNat, List.foldl_cons, foldl_beNat]
  simp

theorem beNat_append (xs ys : List Byte) : beNat (xs ++ ys) = beNat xs * 256 ^ ys.length + beNat ys := by
  rw [beNat, List.foldl_append, foldl_beNat]
  rfl

theorem beNat_singleton (b : Byte) : beNat [b] = b.toNat := by simp [beNat_cons]

theorem beNat_lt (bs : List Byte) : beNat bs < 256 ^ bs.length := by
  induction bs with
  | nil => simp
  | cons b bs ih =>
    rw [beNat_cons, List.length_cons, pow_succ]
    have byte : b.toNat < 256 := b.isLt
    have : b.toNat * 256 ^ bs.length ≤ 255 * 256 ^ bs.length := Nat.mul_le_mul_right _ (by omega)
    omega

@[simp] theorem beBytes_length (n v : Nat) : (beBytes n v).length = n := by
  induction n generalizing v with
  | zero => rfl
  | succ n ih => rw [beBytes, List.length_cons, ih]

@[simp] theorem beNat_beBytes (n v : Nat) : beNat (beBytes n v) = v % 256 ^ n := by
  induction n with
  | zero => simp [beBytes, Nat.mod_one]
  | succ n ih =>
    have split : v % 256 ^ (n + 1) = v % 256 ^ n + 256 ^ n * (v / 256 ^ n % 256) := by rw [pow_succ, Nat.mod_mul]
    have byte : v / 256 ^ n % 2 ^ 8 = v / 256 ^ n % 256 := rfl
    rw [beBytes, beNat_cons, ih, beBytes_length, BitVec.toNat_ofNat, split, byte]
    ring

/-- Bytes are determined by their number and the value they spell. -/
theorem beNat_injective {xs ys : List Byte} (length : xs.length = ys.length) (value : beNat xs = beNat ys) :
    xs = ys := by
  induction xs generalizing ys with
  | nil => exact (List.length_eq_zero_iff.mp length.symm).symm
  | cons x xs ih =>
    cases ys with
    | nil => cases length
    | cons y ys =>
      have length' : xs.length = ys.length := Nat.succ.inj length
      rw [beNat_cons, beNat_cons, length'] at value
      have low := beNat_lt xs
      have low' := beNat_lt ys
      rw [length'] at low
      have positive : 0 < 256 ^ ys.length := Nat.pos_of_ne_zero (by simp)
      have first : x.toNat = y.toNat := by
        have hx := congrArg (· / 256 ^ ys.length) value
        simpa [Nat.mul_comm _ (256 ^ ys.length), Nat.mul_add_div positive, Nat.div_eq_of_lt low,
          Nat.div_eq_of_lt low'] using hx
      rw [first] at value
      rw [BitVec.eq_of_toNat_eq first, ih length' (by omega)]

/-- A byte alone is a number in one byte. -/
theorem byteOf_eq_beBytes (n : Nat) : [byteOf n] = beBytes 1 n := by simp [beBytes, byteOf]

/-- A flag is a number in one byte. -/
theorem flagByte_eq_beBytes (b : Bool) : [flagByte b] = beBytes 1 (if b then 1 else 0) := by
  cases b <;> rfl

/-! ### Signed numbers (R210) -/

@[simp] theorem beInt_length (n : Nat) (v : Int) : (beInt n v).length = n := beBytes_length ..

/-- A signed number reads back within its width. -/
theorem beSigned_beInt {n : Nat} {v : Int} (low : -((256 ^ n : Nat) : Int) ≤ 2 * v)
    (high : 2 * v < ((256 ^ n : Nat) : Int)) : beSigned (beInt n v) = v := by
  have modulus : 0 < ((256 ^ n : Nat) : Int) := by positivity
  have value : (beNat (beInt n v) : Int) = v % ((256 ^ n : Nat) : Int) := by
    have below := Int.emod_lt_of_pos v modulus
    have above := Int.emod_nonneg v modulus.ne'
    rw [beInt, beNat_beBytes, Nat.mod_eq_of_lt (by omega)]
    omega
  unfold beSigned
  rw [beInt_length]
  rcases lt_or_ge v 0 with negative | nonnegative
  · have wrapped : v % ((256 ^ n : Nat) : Int) = v + ((256 ^ n : Nat) : Int) := by
      rw [← Int.add_emod_right, Int.emod_eq_of_lt (by omega) (by omega)]
    rw [if_neg (by omega)]
    omega
  · have same : v % ((256 ^ n : Nat) : Int) = v := Int.emod_eq_of_lt nonnegative (by omega)
    rw [if_pos (by omega)]
    omega

/-! ### Fields of concatenated bytes -/

section
variable {xs ys bs : List Byte} {o m n : Nat}

theorem fieldBytes_length (h : o + n ≤ bs.length) : (fieldBytes bs o n).length = n := by
  simp only [fieldBytes, List.length_take, List.length_drop]
  omega

/-- A field that begins behind a prefix is a field of the rest. -/
theorem fieldBytes_skip (h : xs.length ≤ o) : fieldBytes (xs ++ ys) o n = fieldBytes ys (o - xs.length) n := by
  rw [fieldBytes, List.drop_append, List.drop_of_length_le h, List.nil_append, fieldBytes]

theorem fieldBytes_head (h : xs.length = n) : fieldBytes (xs ++ ys) 0 n = xs := by
  rw [fieldBytes, List.drop_zero, List.take_left' h]

theorem fieldBytes_all (h : xs.length = n) : fieldBytes xs 0 n = xs := by
  rw [fieldBytes, List.drop_zero, List.take_of_length_le h.le]

/-- A field within a field. -/
theorem fieldBytes_fieldBytes {a : Nat} (h : a + n ≤ m) :
    fieldBytes (fieldBytes bs o m) a n = fieldBytes bs (o + a) n := by
  simp only [fieldBytes, List.drop_take, List.drop_drop, List.take_take]
  congr 1
  omega

theorem fieldNat_fieldBytes {a : Nat} (h : a + n ≤ m) : fieldNat (fieldBytes bs o m) a n = fieldNat bs (o + a) n := by
  rw [fieldNat, fieldBytes_fieldBytes h, fieldNat]

theorem fieldNat_skip (h : xs.length ≤ o) : fieldNat (xs ++ ys) o n = fieldNat ys (o - xs.length) n := by
  rw [fieldNat, fieldBytes_skip h, fieldNat]

theorem fieldNat_head (h : xs.length = n) : fieldNat (xs ++ ys) 0 n = beNat xs := by
  rw [fieldNat, fieldBytes_head h]

theorem fieldNat_all (h : xs.length = n) : fieldNat xs 0 n = beNat xs := by
  rw [fieldNat, fieldBytes_all h]

theorem fieldNat_lt : fieldNat bs o n < 256 ^ n :=
  (beNat_lt _).trans_le (Nat.pow_le_pow_right (by decide) (List.length_take_le ..))

end

/-! ### The check (R211) -/

theorem crc16_append (bs : List Byte) (b : Byte) : crc16 (bs ++ [b]) = crcByte (crc16 bs) b := by
  simp [crc16, List.foldl_append]

@[simp] theorem checkBytes_length (bs : List Byte) : (checkBytes bs).length = 2 := beBytes_length ..

theorem beNat_checkBytes (bs : List Byte) : beNat (checkBytes bs) = (crc16 bs).toNat := by
  rw [checkBytes, beNat_beBytes]
  exact Nat.mod_eq_of_lt (crc16 bs).isLt

/-- A byte in the upper 8 bits of the register. -/
theorem upper_byte (b : Byte) : b.zeroExtend 16 <<< 8 = BitVec.ofNat 16 (256 * b.toNat) := by
  refine BitVec.eq_of_toNat_eq ?_
  have byte : b.toNat < 256 := b.isLt
  simp only [BitVec.toNat_shiftLeft, BitVec.truncate_eq_setWidth, BitVec.toNat_setWidth, BitVec.toNat_ofNat,
    Nat.shiftLeft_eq]
  omega

/-- The register's eight steps for a byte are the model's shifts. -/
theorem crcByte_eq {r : Word16} {b : Byte} {register : Nat → Word16}
    (first : register 0 = r ^^^ BitVec.ofNat 16 (256 * b.toNat))
    (steps : ∀ i, i < 8 → register (i + 1) = crcShift (register i)) : crcByte r b = register 8 := by
  rw [steps 7 (by omega), steps 6 (by omega), steps 5 (by omega), steps 4 (by omega), steps 3 (by omega),
    steps 2 (by omega), steps 1 (by omega), steps 0 (by omega), first, crcByte, upper_byte]

/-! ### Places (R157, R159, R215) -/

section
variable {p : Place} {size : Nat} {bs : List Byte}

/-- A place holds a record that passes where its bytes have the record's length, are not all erased and agree with their
check. -/
theorem passing_eq_some : p.passing size = some bs ↔ p = .written bs ∧ bs.length = size ∧ (∃ b ∈ bs, b ≠ 0xFF#8) ∧
    bs.drop (size - 2) = checkBytes (bs.take (size - 2)) := by
  cases p with
  | written cs =>
    have decided : Place.passing size (.written cs) = some bs ↔
        (!cs.all (· == 0xFF#8) && checkAgrees size cs) = true ∧ cs = bs := by
      simp only [Place.passing, Option.ite_none_right_eq_some, Option.some_inj]
    have written : (∃ b ∈ cs, b ≠ 0xFF#8) ↔ (!cs.all (· == 0xFF#8)) = true := by simp
    rw [decided, Place.written.injEq, Bool.and_eq_true, ← written]
    simp only [checkAgrees, Bool.and_eq_true, beq_iff_eq]
    constructor
    · rintro ⟨⟨notErased, length, check⟩, rfl⟩
      exact ⟨rfl, length, notErased, check⟩
    · rintro ⟨rfl, length, notErased, check⟩
      exact ⟨⟨notErased, length, check⟩, rfl⟩
  | erased => simp [Place.passing]
  | damaged => simp [Place.passing]

end

end Sys2Proof.Machine

/-! SUPPORT. The checkpoint record reads back (R210, R211, R216). -/

namespace Sys2Proof.Machine

open Sys2Proof.Safety

/-! ### The item at the head -/

section
variable {ys : List Byte} {b : Byte} {o n v : Nat}

theorem fieldNat_beBytes : fieldNat (beBytes n v) 0 n = v % 256 ^ n := by
  rw [fieldNat_all (beBytes_length ..), beNat_beBytes]

theorem fieldNat_beBytes_append : fieldNat (beBytes n v ++ ys) 0 n = v % 256 ^ n := by
  rw [fieldNat_head (beBytes_length ..), beNat_beBytes]

theorem fieldNat_cons_head : fieldNat (b :: ys) 0 1 = b.toNat := by
  rw [fieldNat, fieldBytes, List.drop_zero, List.take_succ_cons, List.take_zero, beNat_singleton]

theorem fieldNat_cons_skip (h : 1 ≤ o) : fieldNat (b :: ys) o n = fieldNat ys (o - 1) n :=
  fieldNat_skip (xs := [b]) h

theorem fieldBytes_cons_skip (h : 1 ≤ o) : fieldBytes (b :: ys) o n = fieldBytes ys (o - 1) n :=
  fieldBytes_skip (xs := [b]) h

/-- A field of a field of known bytes. -/
theorem fieldNat_of_field {bs : List Byte} {m a : Nat} (field : fieldBytes bs o m = ys) (h : a + n ≤ m) :
    fieldNat bs (o + a) n = fieldNat ys a n := by
  rw [← field, fieldNat_fieldBytes h]

end

/-- A byte as a field. -/
theorem fieldNat_byte {bs : List Byte} {o : Nat} (h : o < bs.length) : fieldNat bs o 1 = bs[o].toNat := by
  rw [fieldNat, fieldBytes, List.take_one, List.head?_drop, List.getElem?_eq_getElem h, Option.toList_some,
    beNat_singleton]

@[simp] theorem beNat_replicate_zero (n : Nat) : beNat (List.replicate n 0#8) = 0 := by
  induction n with
  | zero => rfl
  | succ n ih => rw [List.replicate_succ, beNat_cons, ih]; simp

/-! ### The account's items (R144, R216) -/

@[simp] theorem optionBytes_length (n : Nat) (v : Option Nat) : (optionBytes n v).length = n + 1 := by
  cases v <;> simp [optionBytes]

@[simp] theorem figures_length (p : PeriodFigures) : p.bytes.length = 71 := by simp [PeriodFigures.bytes]

@[simp] theorem summary_length (x : Summary) : x.bytes.length = 86 := by simp [Summary.bytes]

@[simp] theorem ledger_length (a : Ledger) : a.bytes.length = 166 := by
  unfold Ledger.bytes
  cases a.summary <;> simp

@[simp] theorem checkpoint_fields_length (x : Checkpoint) : x.fields.length = 189 := by simp [Checkpoint.fields]

@[simp] theorem checkpoint_length (x : Checkpoint) : x.bytes.length = 191 := by simp [Checkpoint.bytes]

/-- The figures stand at their offsets wherever their bytes stand. -/
theorem figuresAt_zero {p : PeriodFigures} (h : FiguresInRange p) : FiguresAt p.bytes 0 p := by
  obtain ⟨⟨low, high⟩, ⟨credits, charges, levy⟩, ⟨soldPeers, soldSurplus, boughtPeers, boughtBackup⟩,
    ⟨pooled, unpooled, lone, cutShort⟩⟩ := h
  constructor
  · simp only [PeriodFigures.bytes, List.append_assoc]
    rw [fieldBytes_head (beInt_length ..), beSigned_beInt (by norm_num; omega) (by norm_num; omega)]
  · simp [PeriodFigures.bytes, List.append_assoc, fieldNat_skip, fieldNat_cons_head, flagByte]
    cases p.saturated <;> rfl
  all_goals
    simp [PeriodFigures.bytes, List.append_assoc, fieldNat_skip, fieldNat_cons_skip,
      fieldNat_beBytes_append, fieldNat_beBytes]
    omega

theorem figuresAt_of_field {bs : List Byte} {o : Nat} {p : PeriodFigures} (h : FiguresInRange p)
    (field : fieldBytes bs o 71 = p.bytes) : FiguresAt bs o p := by
  obtain ⟨balance, saturated, money, energy, counts⟩ := figuresAt_zero h
  constructor
  · rw [← balance, ← field, fieldBytes_fieldBytes (by decide), Nat.add_zero]
  · rw [fieldNat_of_field field (by decide), ← saturated]
  · simpa [fieldNat_of_field field] using money
  · simpa [fieldNat_of_field field] using energy
  · simpa [fieldNat_of_field field] using counts

/-- Figures read from the bytes in which they stand. -/
theorem figures_read {bs : List Byte} {o : Nat} {p : PeriodFigures} (h : FiguresAt bs o p) :
    PeriodFigures.ofBytes (fieldBytes bs o 71) = p := by
  obtain ⟨balance, saturated, ⟨credits, charges, levy⟩, ⟨soldPeers, soldSurplus, boughtPeers, boughtBackup⟩,
    ⟨pooled, unpooled, lone, cutShort⟩⟩ := h
  have flag : (fieldNat bs (o + 6) 1 == 1) = p.saturated := by rw [saturated]; cases p.saturated <;> rfl
  simp [PeriodFigures.ofBytes, fieldNat_fieldBytes, fieldBytes_fieldBytes, balance, flag, credits, charges, levy,
    soldPeers, soldSurplus, boughtPeers, boughtBackup, pooled, unpooled, lone, cutShort]

/-- The account's bytes hold its items. -/
theorem ledgerAt_bytes {a : Ledger} (h : LedgerInRange a) : LedgerAt a.bytes a := by
  obtain ⟨⟨period, opening⟩, figures, summary⟩ := h
  constructor
  · exact ledger_length a
  · refine figuresAt_of_field figures ?_
    simp only [Ledger.bytes, List.append_assoc]
    exact fieldBytes_head (figures_length _)
  · simp [Ledger.bytes, List.append_assoc, fieldNat_skip, fieldNat_beBytes_append]
    omega
  · intro absent
    simp [Ledger.bytes, absent, fieldNat_skip, fieldNat_cons_skip, fieldNat_cons_head, fieldNat_all,
      -List.reduceReplicate]
  · intro y held
    obtain ⟨⟨number, opened, lost⟩, closed, summed⟩ := summary y held
    refine ⟨?_, ?_, ?_, fun none => ?_, fun k some => ?_, figuresAt_of_field summed ?_, ?_⟩
    · simp [Ledger.bytes, held, fieldNat_skip, fieldNat_cons_head]
    · simp [Ledger.bytes, held, Summary.bytes, fieldNat_skip, fieldNat_cons_skip, fieldNat_beBytes_append]
      omega
    · simp [Ledger.bytes, held, Summary.bytes, fieldNat_skip, fieldNat_cons_skip, fieldNat_beBytes_append]
      omega
    · simp [Ledger.bytes, held, Summary.bytes, none, optionBytes, fieldNat_skip, fieldNat_cons_skip, fieldNat_cons_head,
        fieldNat_beBytes_append]
    · have := closed k some
      simp [Ledger.bytes, held, Summary.bytes, some, optionBytes, fieldNat_skip, fieldNat_cons_skip, fieldNat_cons_head,
        fieldNat_beBytes_append]
      omega
    · simp [Ledger.bytes, held, Summary.bytes, fieldBytes_skip, fieldBytes_cons_skip, fieldBytes_head]
    · simp [Ledger.bytes, held, Summary.bytes, fieldNat_skip, fieldNat_cons_skip, fieldNat_beBytes]
      omega

/-- An account read from the bytes in which it stands. -/
theorem ledger_read {bs : List Byte} {a : Ledger} (h : LedgerAt bs a) : Ledger.ofBytes bs = a := by
  obtain ⟨-, figures, ⟨period, opening⟩, absent, summary⟩ := h
  rw [Ledger.ofBytes, figures_read figures, period, opening]
  cases held : a.summary with
  | none => rw [if_neg (by rw [(absent held).1]; decide), ← held]
  | some y =>
    obtain ⟨present, number, opened, noClosing, closing, summed, lost⟩ := summary y held
    have closed : presentNat (fieldNat bs 88 1) (fieldNat bs 89 4) = y.closing := by
      cases last : y.closing with
      | none => rw [(noClosing last).1]; rfl
      | some k => rw [(closing k last).1, (closing k last).2]; rfl
    have read : Summary.ofBytes (fieldBytes bs 80 86) = y := by
      simp [Summary.ofBytes, fieldNat_fieldBytes, fieldBytes_fieldBytes, number, opened, closed, figures_read summed,
        lost]
    rw [if_pos present, read, ← held]

/-! ### The checkpoint record (R216) -/

/-- The last item of a checkpoint record is the check over the bytes before it (R211). -/
theorem checkpoint_check (x : Checkpoint) : x.bytes.drop 189 = checkBytes (x.bytes.take 189) := by
  rw [Checkpoint.bytes, List.drop_left' (checkpoint_fields_length x), List.take_left' (checkpoint_fields_length x)]

theorem checkpointAt_bytes {x : Checkpoint} (h : CheckpointInRange x) : CheckpointAt x.bytes x := by
  obtain ⟨⟨seq, c, period, opening⟩, last, figures, summary⟩ := h
  have tag := x.tag.isLt
  have cumExport := x.cumExport.isLt
  have cumImport := x.cumImport.isLt
  constructor
  · simp [Checkpoint.bytes, Checkpoint.fields, fieldNat_skip, fieldNat_beBytes_append]
    omega
  · simp [Checkpoint.bytes, Checkpoint.fields, fieldNat_skip, fieldNat_beBytes_append]
    omega
  · simp [Checkpoint.bytes, Checkpoint.fields, fieldNat_skip, fieldNat_beBytes_append]
    omega
  · intro none
    simp [Checkpoint.bytes, Checkpoint.fields, none, optionBytes, fieldNat_skip, fieldNat_cons_skip, fieldNat_cons_head,
      fieldNat_beBytes_append]
  · intro k some
    have := last k some
    simp [Checkpoint.bytes, Checkpoint.fields, some, optionBytes, fieldNat_skip, fieldNat_cons_skip, fieldNat_cons_head,
      fieldNat_beBytes_append]
    omega
  · have account : fieldBytes x.bytes 23 166 = x.ledger.bytes := by
      simp [Checkpoint.bytes, Checkpoint.fields, fieldBytes_skip, fieldBytes_head]
    rw [account]
    exact ledgerAt_bytes ⟨⟨period, opening⟩, figures, summary⟩
  · rw [fieldBytes, checkpoint_check, List.take_of_length_le (by simp)]

/-- A checkpoint read from the bytes in which it stands. -/
theorem checkpoint_read {bs : List Byte} {x : Checkpoint} (h : CheckpointAt bs x) : Checkpoint.ofBytes bs = x := by
  obtain ⟨⟨seq, tag⟩, ⟨cumExport, cumImport⟩, interval, absent, last, account, -⟩ := h
  have read : presentNat (fieldNat bs 18 1) (fieldNat bs 19 4) = x.last := by
    cases held : x.last with
    | none => rw [(absent held).1]; rfl
    | some k => rw [(last k held).1, (last k held).2]; rfl
  simp [Checkpoint.ofBytes, checkpointSeq, checkpointTag, seq, tag, cumExport, cumImport, interval, read,
    ledger_read account]

/-- Byte 18 of a record, the presence byte of the last reckoned interval, tells it from erased bytes. -/
theorem checkpoint_not_erased {x : Checkpoint} (h : CheckpointInRange x) : ∃ b ∈ x.bytes, b ≠ 0xFF#8 := by
  obtain ⟨-, -, -, absent, last, -, -⟩ := checkpointAt_bytes h
  have presence : fieldNat x.bytes 18 1 ≤ 1 := by
    cases held : x.last with
    | none => simp [(absent held).1]
    | some k => simp [(last k held).1]
  have place : 18 < x.bytes.length := by simp
  refine ⟨x.bytes[18], List.getElem_mem place, fun erased => ?_⟩
  rw [fieldNat_byte place, erased] at presence
  exact absurd presence (by decide)

theorem passing_checkpoint {x : Checkpoint} (h : CheckpointInRange x) :
    (Place.written x.bytes).passing 191 = some x.bytes :=
  passing_eq_some.mpr ⟨rfl, checkpoint_length x, checkpoint_not_erased h, checkpoint_check x⟩

/-- Settles O6: the items stand at their offsets, the fields are read at the same offsets, and the presence byte of the
last reckoned interval is never 0xFF. -/
theorem checkpointReadsBack : Obligations.CheckpointReadsBack := by
  refine ⟨fun x h => ⟨checkpoint_length x, passing_checkpoint h,
    checkpoint_read (checkpointAt_bytes h), checkpointAt_bytes h⟩,
    fun bs => ⟨rfl, rfl⟩, fun p size bs => passing_eq_some⟩

end Sys2Proof.Machine

/-! SUPPORT. The tally frame reads back, and its check (R210 to R212). -/

namespace Sys2Proof.Machine

open Sys2Proof.Safety

section
variable {g : Configuration} {ci ri : Nat} {own : OwnRecord} {state : SupplyState} {held : Bool} {copy : CopyMark}

theorem frameContent_length : (frameContent g ci ri own state held copy).length = 24 := by simp [frameContent]

/-- The status byte, bit by bit (R212). -/
theorem statusByte_toNat (saturated restarted : Bool) : (statusByte state held saturated restarted).toNat =
    state.code + 4 * bitOf held + 8 * bitOf saturated + 16 * bitOf restarted := by
  cases state <;> cases held <;> cases saturated <;> cases restarted <;> rfl

theorem supply_of_status (saturated restarted : Bool) :
    supplyOfCode ((statusByte state held saturated restarted).toNat % 4) = some state := by
  cases state <;> cases held <;> cases saturated <;> cases restarted <;> rfl

theorem flags_of_status (saturated restarted : Bool) :
    (statusByte state held saturated restarted).toNat.testBit 2 = held ∧
    (statusByte state held saturated restarted).toNat.testBit 3 = saturated ∧
    (statusByte state held saturated restarted).toNat.testBit 4 = restarted := by
  cases state <;> cases held <;> cases saturated <;> cases restarted <;> decide

/-- The content's fields at their offsets. -/
theorem frameContent_fields (cooperative : g.cooperative < 2 ^ 16) (nodeId : g.nodeId < 2 ^ 8)
    (lengthCode : g.lengthCode < 2 ^ 8) (interval : ci < 2 ^ 32) (remaining : ri < 2 ^ 16)
    (exported : own.exportWh < 2 ^ 16) (imported : own.importWh < 2 ^ 16) {bs : List Byte}
    (content : bs = frameContent g ci ri own state held copy) :
    (fieldNat bs 0 2 = g.cooperative ∧ fieldNat bs 2 1 = g.nodeId ∧ fieldNat bs 3 1 = g.lengthCode) ∧
    (fieldNat bs 4 4 = ci ∧ fieldNat bs 8 2 = ri) ∧
    (fieldNat bs 10 2 = own.exportWh ∧ fieldNat bs 12 2 = own.importWh ∧
      fieldNat bs 14 4 = own.cumExport.toNat ∧ fieldNat bs 18 4 = own.cumImport.toNat) ∧
    fieldNat bs 22 1 = (statusByte state held own.saturated own.restarted).toNat ∧
    fieldNat bs 23 1 = (byteOf (16 * copy.count + copy.index)).toNat := by
  have cumExport := own.cumExport.isLt
  have cumImport := own.cumImport.isLt
  subst content
  refine ⟨⟨?_, ?_, ?_⟩, ⟨?_, ?_⟩, ⟨?_, ?_, ?_, ?_⟩, ?_, ?_⟩
  all_goals
    simp [frameContent, fieldNat_skip, fieldNat_cons_skip, fieldNat_cons_head, fieldNat_beBytes_append]
  all_goals omega

theorem frameContent_reads (cooperative : g.cooperative < 2 ^ 16) (nodeId : g.nodeId < 2 ^ 8)
    (lengthCode : g.lengthCode < 2 ^ 8) (interval : ci < 2 ^ 32) (remaining : ri < 2 ^ 16)
    (exported : own.exportWh < 2 ^ 16) (imported : own.importWh < 2 ^ 16) :
    Frame.ofContent (frameContent g ci ri own state held copy) =
      { cooperative := g.cooperative, sender := g.nodeId, lengthCode := g.lengthCode, ci := ci, ri := ri
        exportWh := own.exportWh, importWh := own.importWh, cumExport := own.cumExport, cumImport := own.cumImport
        supply := some state, held := held, saturated := own.saturated, restarted := own.restarted } := by
  obtain ⟨⟨f0, f2, f3⟩, ⟨f4, f8⟩, ⟨f10, f12, f14, f18⟩, f22, -⟩ :=
    frameContent_fields (state := state) (held := held) (copy := copy) cooperative nodeId lengthCode interval remaining
      exported imported rfl
  obtain ⟨heldBit, saturatedBit, restartedBit⟩ :=
    flags_of_status (state := state) (held := held) own.saturated own.restarted
  simp only [Frame.ofContent, f0, f2, f3, f4, f8, f10, f12, f14, f18, f22, supply_of_status, heldBit, saturatedBit,
    restartedBit, BitVec.ofNat_toNat, BitVec.setWidth_eq]

/-- The content stands at offset 2 of the frame, the check over it behind it. -/
theorem frameAt_frameBytes (cooperative : g.cooperative < 2 ^ 16) (nodeId : g.nodeId < 2 ^ 8)
    (lengthCode : g.lengthCode < 2 ^ 8) (interval : ci < 2 ^ 32) (remaining : ri < 2 ^ 16)
    (exported : own.exportWh < 2 ^ 16) (imported : own.importWh < 2 ^ 16) (count : copy.count < 16)
    (index : copy.index < 16) :
    FrameAt (frameBytes (frameContent g ci ri own state held copy)) g ci ri own state held copy := by
  have length := frameContent_length (g := g) (ci := ci) (ri := ri) (own := own) (state := state) (held := held)
    (copy := copy)
  have content : fieldBytes (frameBytes (frameContent g ci ri own state held copy)) 2 24 =
      frameContent g ci ri own state held copy := by
    rw [frameBytes, fieldBytes_cons_skip (by decide), fieldBytes_cons_skip (by decide), fieldBytes_head length]
  obtain ⟨identity, position, figures, status, marks⟩ :=
    frameContent_fields cooperative nodeId lengthCode interval remaining exported imported content
  simp only [fieldNat_fieldBytes, Nat.reduceAdd, Nat.reduceLeDiff] at identity position figures status marks
  refine ⟨?_, ?_, identity, position, figures, ?_, ?_, ?_⟩
  · simp [frameBytes, length]
  · simp [frameBytes, fieldNat_cons_skip, fieldNat_cons_head]
  · rw [status, statusByte_toNat]
  · rw [marks]
    simp only [byteOf, BitVec.toNat_ofNat]
    omega
  · rw [content, frameBytes, fieldBytes_cons_skip (by decide), fieldBytes_cons_skip (by decide),
      fieldBytes_skip (by rw [length]), length, fieldBytes_all (checkBytes_length _)]

end

/-- Settles O7: the fields at their offsets, the register's shift by its first bit, and bytes as numbers. -/
theorem frameReadsBack : Obligations.FrameReadsBack := by
  refine ⟨fun g ci ri own state held copy cooperative nodeId lengthCode interval remaining exported imported =>
    ⟨frameContent_length, frameContent_reads cooperative nodeId lengthCode interval remaining exported imported,
      fun count index => frameAt_frameBytes cooperative nodeId lengthCode interval remaining exported imported count
        index⟩, ⟨rfl, ?_, fun bs => ⟨checkBytes_length bs, beNat_checkBytes bs⟩⟩, rfl, ?_, fun bs o n => ⟨rfl, rfl⟩,
    fun n v => ⟨beBytes_length n v, beNat_beBytes n v⟩⟩
  · intro bs b register first steps
    rw [crc16_append]
    refine crcByte_eq first fun i below => ?_
    obtain ⟨one, zero⟩ := steps i below
    unfold crcShift
    cases leaving : (register i).msb with
    | true => rw [if_pos rfl, one leaving]
    | false => rw [if_neg (by decide), zero leaving]
  · intro bs b
    rw [beNat_append, beNat_singleton, List.length_singleton, pow_one, Nat.mul_comm]

end Sys2Proof.Machine

/-! SUPPORT. The checkpoint store: places, requests and the record's build (R157, R164 to R167). -/

namespace Sys2Proof.Machine

open Sys2Proof.Safety

/-! ### Blank places and sectors (R157, R167) -/

theorem written_isBlank_iff (bs : List Byte) : (Place.written bs).isBlank = true ↔ ∀ b ∈ bs, b = 0xFF#8 := by
  simp [Place.isBlank]

/-- A sector that is not blank holds a slot that is not. -/
theorem sectorBlank_eq_false {a : NvArray} {k : Nat} : a.sectorBlank k = false ↔
    ∃ i p, k * 16 ≤ i ∧ i < k * 16 + 16 ∧ a.slots[i]? = some p ∧ p.isBlank = false := by
  simp only [NvArray.sectorBlank, sectorSize, List.all_eq_false]
  constructor
  · rintro ⟨p, mem, used⟩
    obtain ⟨j, place⟩ := List.mem_iff_getElem?.mp mem
    rw [List.getElem?_take] at place
    split at place
    · next below => exact ⟨k * 16 + j, p, by omega, by omega, by rwa [List.getElem?_drop] at place, by simpa using used⟩
    · cases place
  · rintro ⟨i, p, low, high, place, used⟩
    refine ⟨p, List.mem_iff_getElem?.mpr ⟨i - k * 16, ?_⟩, by simpa using used⟩
    rw [List.getElem?_take, if_pos (by omega), List.getElem?_drop, show k * 16 + (i - k * 16) = i by omega, place]

/-- An erase is needed at the first slot of a sector that is not blank. -/
theorem eraseNeeded_iff {a : NvArray} {n : Nat} : a.eraseNeeded n = true ↔ n % 16 = 0 ∧
    ∃ i p, n ≤ i ∧ i < n + 16 ∧ a.slots[i]? = some p ∧ p.isBlank = false := by
  simp only [NvArray.eraseNeeded, Bool.and_eq_true, Bool.not_eq_true', sectorBlank_eq_false, sectorFirst, sectorSize,
    beq_iff_eq]
  refine and_congr_right fun first => ?_
  rw [show n / 16 * 16 = n by omega]

/-- No erase is needed within a sector. -/
theorem eraseNeeded_eq_false {a : NvArray} {n : Nat} (within : n % 16 ≠ 0) : a.eraseNeeded n = false := by
  rw [NvArray.eraseNeeded, sectorFirst, beq_eq_false_iff_ne.mpr within, Bool.false_and]

/-! ### The build (R166) -/

section
variable {s : State}

theorem buildOk_iff : s.buildOk = true ↔
    s.meter.countersOk = true ∧ s.reckoning.lastParity = true ∧ s.account.parity = true := by
  rw [State.buildOk, Bool.and_eq_true, Bool.and_eq_true, and_assoc]

/-- The record built is that of the state as it stands. -/
theorem buildAndProgram_of_ok (ok : s.buildOk = true) : s.buildAndProgram = s.setStore { s.store with
    pending := false
    op := some (.programSlot s.store.pointer (recordNow s s.store.nextSeq s.account.ledger).bytes 1
      s.store.finalOwed) } := by
  rw [State.buildAndProgram, if_pos ok]
  rfl

theorem beginCheckpoint_erases (needed : s.store.array.eraseNeeded s.store.pointer = true) :
    s.beginCheckpoint = s.setStore { s.store with op := some (.eraseSector (s.store.pointer / 16) 1 none) } := by
  rw [State.beginCheckpoint, if_pos needed]

theorem beginCheckpoint_builds (ready : s.store.array.eraseNeeded s.store.pointer = false) :
    s.beginCheckpoint = s.buildAndProgram := by
  rw [State.beginCheckpoint, if_neg (by simp [ready])]

/-! ### Requests (R164, R165) -/

theorem mayServe_of_none (h : s.supervisor.resetPending = .none) : s.mayServe = true := by simp [State.mayServe, h]

theorem request_fresh (fresh : s.store.commissioning = .fresh) : s.request = s := by
  rw [State.request, if_pos fresh]

theorem request_failed (fresh : s.store.commissioning ≠ .fresh) (failed : s.store.failed = true) :
    s.request = s.setStore { s.store with counters := { s.store.counters with
      refused := min 65535 (s.store.counters.refused + 1) } } := by
  rw [State.request, if_neg fresh, if_pos failed, count16_eq_min]

theorem request_busy (fresh : s.store.commissioning ≠ .fresh) (failed : s.store.failed = false)
    (busy : s.store.op ≠ none) : s.request = s.setStore s.store.pend := by
  rw [State.request, if_neg fresh, if_neg (by simp [failed]), if_neg (by simp [busy])]

theorem request_idle (fresh : s.store.commissioning ≠ .fresh) (failed : s.store.failed = false)
    (idle : s.store.op = none) (serves : s.mayServe = true) : s.request = s.beginCheckpoint := by
  rw [State.request, if_neg fresh, if_neg (by simp [failed]), if_pos (by simp [idle, serves])]

theorem pend_first {t : Store} (h : t.pending = false) : t.pend = { t with pending := true } := by
  rw [Store.pend, if_neg (by simp [h])]

theorem pend_again {t : Store} (h : t.pending = true) : t.pend = { t with counters := { t.counters with
    merged := min 65535 (t.counters.merged + 1) } } := by
  rw [Store.pend, if_pos h, count16_eq_min]

theorem exec_checkpointRequest {q : StoreNotice} {rest : List StoreNotice} (powered : s.supervisor.powered = true)
    (inbox : s.store.inbox = q :: rest) :
    exec .checkpointRequest s = .next (s.setStore { s.store with inbox := rest }).request := by
  simp only [exec, execCheckpointRequest, whenPowered_on powered, inbox]

end

/-- Settles O52: the request by the store's state, FRESH before FAILED. -/
theorem checkpointRequestsAreTaken : Obligations.CheckpointRequestsAreTaken := by
  refine ⟨fun a n => eraseNeeded_iff, ⟨rfl, rfl, written_isBlank_iff⟩, fun s => buildOk_iff,
    fun s q rest powered inbox => ?_⟩
  rw [exec_checkpointRequest powered inbox]
  refine ⟨fun fresh => ?_, fun fresh failed => ?_, fun fresh failed busy => ⟨fun first => ?_, fun again => ?_⟩,
    fun fresh failed idle noReset => ⟨fun needed => ?_, fun ready ok => ?_⟩⟩
  · rw [request_fresh (by exact fresh)]
    rfl
  · rw [request_failed (by exact fresh) (by exact failed)]
    rfl
  · rw [request_busy (by exact fresh) (by exact failed) (by exact busy), pend_first (by exact first)]
    rfl
  · rw [request_busy (by exact fresh) (by exact failed) (by exact busy), pend_again (by exact again)]
    rfl
  · rw [request_idle (by exact fresh) (by exact failed) (by exact idle) (mayServe_of_none (by exact noReset)),
      beginCheckpoint_erases (by exact needed)]
    rfl
  · rw [request_idle (by exact fresh) (by exact failed) (by exact idle) (mayServe_of_none (by exact noReset)),
      beginCheckpoint_builds (by exact ready), buildAndProgram_of_ok (by exact ok)]
    rfl

end Sys2Proof.Machine

/-! SUPPORT. The checkpoint store: completions of erases and slot programs (R161, R162, R165 to R171, R173). -/

namespace Sys2Proof.Machine

open Sys2Proof.Safety

/-! ### The array after an erase (R167, R170) -/

section
variable {a : NvArray} {free k i : Nat}

theorem eraseSector_slots_of_eq (h : i / 16 = k) : (a.eraseSector k).slots[i]? = a.slots[i]?.map fun _ => .erased := by
  simp [NvArray.eraseSector, h]

theorem eraseSector_slots_of_ne (h : i / 16 ≠ k) : (a.eraseSector k).slots[i]? = a.slots[i]? := by
  simp [NvArray.eraseSector, h]

/-- Where the mixture left by a failed erase happens to be blank, the sector's first slot reads damaged. -/
theorem eraseFailed_cases (a : NvArray) (free k : Nat) :
    ({ a with slots := eraseRemnants free k a.slots } : NvArray).sectorBlank k = true ∧
      a.eraseFailed free k = { a with slots := (eraseRemnants free k a.slots).set (k * 16) .damaged } ∨
    ({ a with slots := eraseRemnants free k a.slots } : NvArray).sectorBlank k = false ∧
      a.eraseFailed free k = { a with slots := eraseRemnants free k a.slots } := by
  cases blank : ({ a with slots := eraseRemnants free k a.slots } : NvArray).sectorBlank k with
  | true => exact .inl ⟨rfl, by rw [NvArray.eraseFailed, if_pos blank]; rfl⟩
  | false => exact .inr ⟨rfl, by rw [NvArray.eraseFailed, if_neg (by simp [blank])]⟩

@[simp] theorem eraseRemnants_length (slots : List Place) : (eraseRemnants free k slots).length = slots.length :=
  List.length_mapIdx

theorem eraseRemnants_of_ne {slots : List Place} (h : i / 16 ≠ k) : (eraseRemnants free k slots)[i]? = slots[i]? := by
  simp [eraseRemnants, h]

/-- A failed erase changes its sector alone. -/
theorem eraseFailed_frame (a : NvArray) (free k : Nat) :
    (a.eraseFailed free k).config = a.config ∧ (a.eraseFailed free k).lock = a.lock ∧
    (a.eraseFailed free k).slots.length = a.slots.length ∧
    ∀ i, i / 16 ≠ k → (a.eraseFailed free k).slots[i]? = a.slots[i]? := by
  rcases eraseFailed_cases a free k with ⟨-, left⟩ | ⟨-, left⟩
  · rw [left]
    refine ⟨rfl, rfl, by simp, fun i other => ?_⟩
    rw [List.getElem?_set_ne (by rintro rfl; omega), eraseRemnants_of_ne other]
  · rw [left]
    exact ⟨rfl, rfl, by simp, fun i other => eraseRemnants_of_ne other⟩

/-- A failed erase leaves a slot of the sector that is not blank. -/
theorem eraseFailed_not_blank (exists_slot : k * 16 < a.slots.length) :
    ∃ i, i / 16 = k ∧ ∃ p, (a.eraseFailed free k).slots[i]? = some p ∧ p.isBlank = false := by
  rcases eraseFailed_cases a free k with ⟨-, left⟩ | ⟨used, left⟩
  · refine ⟨k * 16, by omega, .damaged, ?_, rfl⟩
    rw [left]
    exact List.getElem?_set_self (by simpa using exists_slot)
  · obtain ⟨i, p, low, high, place, notBlank⟩ := sectorBlank_eq_false.mp used
    exact ⟨i, by omega, p, by rwa [left], notBlank⟩

/-- What a failed erase leaves in the configuration sector: no record that passes, no marker, not both places
blank (log 14). -/
theorem configRemnant_places (recordLeft lockLeft : Bool) : ∃ place lock,
    a.configRemnant (recordLeft || !lockLeft) lockLeft = { a with config := place, lock := lock } ∧
    place.passing 98 = none ∧ lock.lockCheck = none ∧ (place = .erased → lock ≠ .erased) := by
  refine ⟨_, _, rfl, ?_⟩
  cases recordLeft <;> cases lockLeft <;> simp [Place.passing, Place.lockCheck]

end

/-! ### The end of an operation (R165, R171 to R173) -/

section
variable {s : State}

theorem settleReset_of_none (h : s.supervisor.resetPending = .none) : s.settleReset = s := by
  unfold State.settleReset
  rw [h]
  exact ite_self s

/-- A requested reset waits for its response. -/
theorem settleReset_unarmed (requested : s.supervisor.resetPending = .requested)
    (unarmed : s.supervisor.armed = false) :
    s.settleReset = s := by
  unfold State.settleReset
  rw [requested, unarmed]
  exact ite_self s

theorem afterOperation_free (free : s.store.pending = false) :
    s.afterOperation = (s.setStore { s.store with op := none }).settleReset := by
  rw [State.afterOperation, if_neg (by simp [free])]

theorem afterOperation_serves (pending : s.store.pending = true) (fresh : s.store.commissioning ≠ .fresh)
    (serves : s.mayServe = true) :
    s.afterOperation = (s.setStore { s.store with op := none }).beginCheckpoint := by
  rw [State.afterOperation, if_pos]
  rw [Bool.and_eq_true, Bool.and_eq_true, bne_iff_ne]
  exact ⟨⟨pending, fresh⟩, serves⟩

theorem enterFailed_unowed (owed : s.store.finalOwed = false) (noReset : s.supervisor.resetPending = .none) :
    s.enterFailed = s.setStore { s.store with op := none, failed := true, pending := false } := by
  rw [State.enterFailed, if_neg (by simp [owed]), settleReset_of_none (by exact noReset)]

/-- A report awaited is held as the outcome and answers RESTART-NODE (R173). -/
theorem finalReport_awaited (o : FinalOutcome) (awaited : s.supervisor.finalAwaited = true) :
    s.finalReport o = { s with
      supervisor := { s.supervisor with finalAwaited := false, outcome := some o }
      port := waitAnswered s.port 0x0A#8 [0#8, byteOf o.code]
      store := { s.store with finalOwed := false } } := by
  rw [State.finalReport, if_pos (by exact awaited), State.answer_eq]
  rfl

/-- A report changes of the store only that it is no longer owed, and leaves a pending reset as it is. -/
theorem finalReport_frame (s : State) (o : FinalOutcome) :
    (s.finalReport o).store = { s.store with finalOwed := false } ∧
    (s.finalReport o).supervisor.resetPending = s.supervisor.resetPending := by
  cases awaited : s.supervisor.finalAwaited with
  | true =>
    rw [finalReport_awaited o awaited]
    exact ⟨rfl, rfl⟩
  | false =>
    rw [State.finalReport, if_neg (by simp [awaited])]
    exact ⟨rfl, rfl⟩

/-- The store on entry into FAILED, with no reset pending. -/
theorem enterFailed_store (noReset : s.supervisor.resetPending = .none) : ∃ owed, s.enterFailed.store =
    { s.store with op := none, failed := true, pending := false, finalOwed := owed } := by
  cases owed : s.store.finalOwed with
  | false => exact ⟨false, by rw [enterFailed_unowed owed noReset, ← owed]; rfl⟩
  | true =>
    obtain ⟨store, reset⟩ := finalReport_frame
      (s.setStore { s.store with op := none, failed := true, pending := false }) .notWritten
    refine ⟨false, ?_⟩
    rw [State.enterFailed, if_pos (by exact owed), settleReset_of_none (reset.trans noReset), store]
    rfl

/-! ### The configuration sector's erase (R161, R162) -/

theorem exec_configErased {body : List Byte} {n : Nat} (powered : s.supervisor.powered = true)
    (op : s.store.op = some (.eraseConfig body n)) (verified : Bool) :
    exec (.eraseComplete verified) s = .next (s.configErased body n verified) := by
  simp only [exec, execEraseComplete, whenPowered_on powered, op]

theorem configErased_verified (body : List Byte) (n : Nat) : s.configErased body n true = s.setStore { s.store with
    op := some (.programConfig body), array := { s.store.array with config := .erased, lock := .erased } } := rfl

/-- The state once a failed erase of the configuration sector has been counted. -/
def State.configEraseFailed (s : State) (place lock : Place) : State :=
  { s with
    freeCount := s.freeCount + 2
    store := { s.store with
      array := { s.store.array with config := place, lock := lock }
      counters := { s.store.counters with eraseFailures := min 65535 (s.store.counters.eraseFailures + 1) } } }

/-- A failed erase: attempt 2, or STORE-FAILED and FAILED, on the same remnant. -/
theorem configErased_failed (s : State) (body : List Byte) : ∃ place lock,
    place.passing 98 = none ∧ lock.lockCheck = none ∧ (place = .erased → lock ≠ .erased) ∧
    s.configErased body 1 false = (s.configEraseFailed place lock).setStore
      { (s.configEraseFailed place lock).store with op := some (.eraseConfig body 2) } ∧
    s.configErased body 2 false =
      ((s.configEraseFailed place lock).answer .commission .storeFailed []).enterFailed := by
  obtain ⟨place, lock, left, noRecord, noMarker, notBlank⟩ := configRemnant_places (a := s.store.array)
    (Config.placeTouched s.freeCount) (Config.placeTouched (s.freeCount + 1))
  have counted : (s.draw.2.draw.2.setStore { s.store with
      array := s.store.array.configRemnant (s.draw.1 || !s.draw.2.draw.1) s.draw.2.draw.1
      counters := s.store.counters.eraseFailed }) = s.configEraseFailed place lock := by
    rw [StoreCounters.eraseFailed, count16_eq_min]
    exact congrArg (fun a => ({ s with
      freeCount := s.freeCount + 2
      store := { s.store with
        array := a
        counters := { s.store.counters with
          eraseFailures := min 65535 (s.store.counters.eraseFailures + 1) } } } : State)) left
  refine ⟨place, lock, noRecord, noMarker, notBlank, ?_, ?_⟩
  · rw [← counted]
    rfl
  · rw [← counted]
    rfl

/-! ### A checkpoint sector's erase (R167, R169, R170) -/

theorem exec_sectorErased {k n : Nat} {record : Option (List Byte × Bool)} (powered : s.supervisor.powered = true)
    (op : s.store.op = some (.eraseSector k n record)) (verified : Bool) :
    exec (.eraseComplete verified) s = .next (s.sectorErased k n record verified) := by
  simp only [exec, execEraseComplete, whenPowered_on powered, op]

/-- The state once a failed erase of a checkpoint sector has been counted. -/
def State.sectorEraseFailed (s : State) (k : Nat) : State :=
  { s with
    freeCount := s.freeCount + 1
    store := { s.store with
      array := s.store.array.eraseFailed s.freeCount k
      counters := { s.store.counters with eraseFailures := min 65535 (s.store.counters.eraseFailures + 1) } } }

theorem sectorErased_failed (s : State) (k : Nat) (record : Option (List Byte × Bool)) :
    s.sectorErased k 1 record false = (s.sectorEraseFailed k).setStore
      { (s.sectorEraseFailed k).store with op := some (.eraseSector k 2 record) } ∧
    s.sectorErased k 2 record false = (s.sectorEraseFailed k).enterFailed := by
  have counted : ((s.setFree (s.freeCount + 1)).setStore { s.store with
      array := s.store.array.eraseFailed s.freeCount k
      counters := s.store.counters.eraseFailed }) = s.sectorEraseFailed k := by
    rw [StoreCounters.eraseFailed, count16_eq_min]
    rfl
  rw [← counted]
  exact ⟨rfl, rfl⟩

/-- A sector erased for a new record: the record is built on the erased array. -/
theorem sectorErased_builds (k n : Nat) (noReset : s.supervisor.resetPending = .none) :
    s.sectorErased k n none true =
      (s.setStore { s.store with array := s.store.array.eraseSector k }).buildAndProgram := by
  simp only [State.sectorErased, if_true]
  rw [if_neg (by simp [noReset])]

theorem sectorErased_programs (k n : Nat) (bytes : List Byte) (final : Bool) :
    s.sectorErased k n (some (bytes, final)) true = s.setStore { s.store with
      op := some (.programSlot s.store.pointer bytes 2 final), array := s.store.array.eraseSector k } := rfl

/-! ### A slot's program (R168, R169) -/

theorem exec_slotWritten {n r : Nat} {bytes : List Byte} {final : Bool} (powered : s.supervisor.powered = true)
    (op : s.store.op = some (.programSlot n bytes r final))
    (blank : (s.store.array.slots.getD n .erased).isBlank = true) :
    exec (.slotProgramComplete true) s = .next (s.slotWritten n bytes final) := by
  simp only [exec, execSlotProgramComplete, whenPowered_on powered, op]
  rw [if_pos]
  exact blank

theorem exec_slotFailed {n r : Nat} {bytes : List Byte} {final : Bool} (powered : s.supervisor.powered = true)
    (op : s.store.op = some (.programSlot n bytes r final)) :
    exec (.slotProgramComplete false) s = .next (s.slotFailed n bytes r final) := by
  simp only [exec, execSlotProgramComplete, whenPowered_on powered, op]
  rfl

/-- The state with a verified slot as the newest valid one, before the store goes on. -/
def State.slotHeld (s : State) (n : Nat) (bytes : List Byte) : State :=
  s.setStore { s.store with
    op := none
    array := { s.store.array with slots := s.store.array.slots.set n (.written bytes) }
    newest := some ⟨n, checkpointSeq bytes⟩
    pointer := (s.store.pointer + 1) % 32
    nextSeq := s.store.nextSeq + 1
    counters := { s.store.counters with written := min 65535 (s.store.counters.written + 1) } }

/-- A verified slot: the report, where one is owed for its record, and the operation's end. -/
theorem slotWritten_eq {n : Nat} {bytes : List Byte} {final : Bool} (more : s.store.nextSeq < 4294967295) :
    s.slotWritten n bytes final =
      (if final && s.store.finalOwed then (s.slotHeld n bytes).finalReport .written
        else s.slotHeld n bytes).afterOperation := by
  have held : s.setStore { s.store with
      op := none
      array := s.store.array.setSlot n (.written bytes)
      newest := some ⟨n, checkpointSeq bytes⟩
      pointer := nextSlot s.store.pointer
      nextSeq := if s.store.nextSeq < max32 then s.store.nextSeq + 1 else s.store.nextSeq
      counters := { s.store.counters with written := count16 s.store.counters.written } } = s.slotHeld n bytes := by
    rw [if_pos more, count16_eq_min]
    rfl
  rw [← held]
  exact if_pos more

/-- A program that failed within a sector is made again in the next slot. -/
theorem slotFailed_again {n : Nat} {bytes : List Byte} {final : Bool} (within : s.store.pointer % 16 < 15) :
    s.slotFailed n bytes 1 final = s.setStore { s.store with
      op := some (.programSlot ((s.store.pointer + 1) % 32) bytes 2 final)
      array := { s.store.array with slots := s.store.array.slots.set n .damaged }
      pointer := (s.store.pointer + 1) % 32
      counters := { s.store.counters with
        programFailures := min 65535 (s.store.counters.programFailures + 1) } } := by
  have next : nextSlot s.store.pointer % 16 ≠ 0 := by
    simp only [nextSlot, slotCount]
    omega
  have ready : (s.store.array.setSlot n .damaged).eraseNeeded (nextSlot s.store.pointer) = false :=
    eraseNeeded_eq_false next
  simp only [State.slotFailed, Nat.lt_add_one, if_true]
  rw [if_neg (by simpa using ready), StoreCounters.programFailed, count16_eq_min]
  rfl

end

/-! ### The completions together -/

section
variable {s : State} (powered : s.supervisor.powered = true)
include powered

/-- A failed second attempt at the configuration sector. -/
theorem exec_configErase_fails {body : List Byte} (noReset : s.supervisor.resetPending = .none)
    (op : s.store.op = some (.eraseConfig body 2)) (owed : s.store.finalOwed = false) {place lock : Place}
    (failed : s.configErased body 2 false =
      ((s.configEraseFailed place lock).answer .commission .storeFailed []).enterFailed) :
    exec (.eraseComplete false) s = .next { s with
      freeCount := s.freeCount + 2
      port := waitAnswered s.port 0x06#8 [6#8]
      store := { s.store with
        op := none, failed := true, pending := false
        array := { s.store.array with config := place, lock := lock }
        counters := { s.store.counters with
          eraseFailures := min 65535 (s.store.counters.eraseFailures + 1) } } } := by
  rw [exec_configErased powered op, failed, State.answer_eq, enterFailed_unowed (by exact owed) (by exact noReset)]
  rfl

/-- A verified slot with a request pending: the next operation begins in the same event. -/
theorem exec_slotWritten_serves {n r : Nat} {bytes : List Byte} (noReset : s.supervisor.resetPending = .none)
    (op : s.store.op = some (.programSlot n bytes r false)) (pending : s.store.pending = true)
    (fresh : s.store.commissioning ≠ .fresh) (blank : (s.store.array.slots.getD n .erased).isBlank = true)
    (more : s.store.nextSeq < 4294967295) :
    exec (.slotProgramComplete true) s =
      .next ((s.slotHeld n bytes).setStore { (s.slotHeld n bytes).store with op := none }).beginCheckpoint := by
  rw [exec_slotWritten powered op blank, slotWritten_eq more, Bool.false_and, if_neg (by decide),
    afterOperation_serves (by exact pending) (by exact fresh) (mayServe_of_none (by exact noReset))]

/-- A verified slot with no request pending leaves the store free. -/
theorem exec_slotWritten_free {n r : Nat} {bytes : List Byte} (noReset : s.supervisor.resetPending = .none)
    (op : s.store.op = some (.programSlot n bytes r false)) (free : s.store.pending = false)
    (blank : (s.store.array.slots.getD n .erased).isBlank = true) (more : s.store.nextSeq < 4294967295) :
    exec (.slotProgramComplete true) s = .next (s.slotHeld n bytes) := by
  rw [exec_slotWritten powered op blank, slotWritten_eq more, Bool.false_and, if_neg (by decide),
    afterOperation_free (by exact free), settleReset_of_none (by exact noReset)]
  rfl

/-- A verified slot whose record the final request waits for, its reset not yet armed. -/
theorem exec_slotWritten_final {n r : Nat} {bytes : List Byte} (requested : s.supervisor.resetPending = .requested)
    (unarmed : s.supervisor.armed = false) (awaited : s.supervisor.finalAwaited = true)
    (owed : s.store.finalOwed = true) (op : s.store.op = some (.programSlot n bytes r true))
    (blank : (s.store.array.slots.getD n .erased).isBlank = true) (more : s.store.nextSeq < 4294967295) :
    exec (.slotProgramComplete true) s = .next { (s.slotHeld n bytes) with
      supervisor := { s.supervisor with finalAwaited := false, outcome := some .written }
      port := waitAnswered s.port 0x0A#8 [0#8, 0#8]
      store := { (s.slotHeld n bytes).store with finalOwed := false } } := by
  rw [exec_slotWritten powered op blank, slotWritten_eq more, if_pos (by simp [owed]),
    finalReport_awaited .written (by exact awaited), State.afterOperation, if_neg, settleReset_unarmed]
  · rfl
  · exact requested
  · exact unarmed
  · simp [State.mayServe, State.slotHeld, State.setStore, requested]

end

/-- Settles O53: by the operation in flight, through the lemmas on its completion and on the end of an operation. -/
theorem erasesAndSlotProgramsComplete : Obligations.ErasesAndSlotProgramsComplete := by
  refine ⟨fun s powered noReset => ⟨fun body n op => ?_, fun body n op => ?_, fun k r op => ?_, fun k r op owed => ?_,
    fun k n op ok => ?_, fun k n bytes final op => ?_, ?_, fun n bytes r op free blank more => ?_,
    fun n bytes final op within => ?_, fun n bytes final op => ?_⟩,
    fun s n r bytes powered requested unarmed awaited owed blank more op => ?_, fun a k => ?_, fun a free k => ?_⟩
  · rw [exec_configErased powered op]
    rfl
  · obtain ⟨place, lock, noRecord, noMarker, notBlank, again, fails⟩ := configErased_failed s body
    refine ⟨place, lock, noRecord, noMarker, notBlank, ?_, ?_⟩
    · rintro rfl
      rw [exec_configErased powered op, again]
      rfl
    · rintro rfl owed
      exact exec_configErase_fails powered noReset op owed fails
  · rw [exec_sectorErased powered op, (sectorErased_failed s k r).1]
    rfl
  · rw [exec_sectorErased powered op, (sectorErased_failed s k r).2,
      enterFailed_unowed (by exact owed) (by exact noReset)]
    rfl
  · rw [exec_sectorErased powered op, sectorErased_builds k n noReset, buildAndProgram_of_ok (by exact ok)]
    rfl
  · rw [exec_sectorErased powered op]
    rfl
  · rintro n bytes r a op pending fresh blank more rfl
    rw [exec_slotWritten_serves powered noReset op pending fresh blank more]
    refine ⟨fun needed => ?_, fun ready ok => ?_⟩
    · rw [beginCheckpoint_erases (by exact needed)]
      rfl
    · rw [beginCheckpoint_builds (by exact ready), buildAndProgram_of_ok (by exact ok)]
      rfl
  · rw [exec_slotWritten_free powered noReset op free blank more, State.slotHeld]
    rfl
  · rw [exec_slotFailed powered op, slotFailed_again within]
    rfl
  · obtain ⟨owed, store⟩ := enterFailed_store (s := s.setStore { s.store with
      array := s.store.array.setSlot n .damaged, pointer := nextSlot s.store.pointer
      counters := s.store.counters.programFailed }) noReset
    refine ⟨_, exec_slotFailed powered op, ?_⟩
    have left : (s.slotFailed n bytes 2 final).store = _ := store
    rw [left]
    exact ⟨rfl, rfl, rfl, rfl, rfl⟩
  · exact exec_slotWritten_final powered requested unarmed awaited owed op blank more
  · exact ⟨rfl, rfl, fun i => ⟨eraseSector_slots_of_eq, eraseSector_slots_of_ne⟩⟩
  · obtain ⟨config, lock, length, others⟩ := eraseFailed_frame a free k
    exact ⟨config, lock, length, others, eraseFailed_not_blank⟩

end Sys2Proof.Machine

/-! SUPPORT. The checkpoint store: the configuration record and the lock marker (R159 to R163, R215). -/

namespace Sys2Proof.Machine

open Sys2Proof.Safety

/-! ### The lock marker (R215) -/

@[simp] theorem lockMarker_length (v : Word16) : (lockMarker v).length = 4 := by simp [lockMarker]

/-- The value and its inversion, as the marker's two fields. -/
theorem lockMarker_fields (v : Word16) :
    fieldNat (lockMarker v) 0 2 = v.toNat ∧ fieldNat (lockMarker v) 2 2 = 65535 - v.toNat := by
  have value := v.isLt
  have inverted : (~~~v).toNat = 65535 - v.toNat := BitVec.toNat_not
  constructor
  · rw [lockMarker, fieldNat_beBytes_append]
    omega
  · rw [lockMarker, fieldNat_skip (by simp), beBytes_length, fieldNat_beBytes, inverted]
    omega

theorem lockValue_eq_some {bs : List Byte} {v : Word16} : lockValue bs = some v ↔ bs = lockMarker v := by
  simp only [lockValue, Option.ite_none_right_eq_some, Option.some_inj]
  constructor
  · rintro ⟨marker, rfl⟩
    exact marker
  · rintro rfl
    have value : BitVec.ofNat 16 (fieldNat (lockMarker v) 0 2) = v := by
      rw [(lockMarker_fields v).1, BitVec.ofNat_toNat, BitVec.setWidth_eq]
    rw [value]
    exact ⟨rfl, rfl⟩

theorem lockCheck_eq_some {p : Place} {v : Word16} : p.lockCheck = some v ↔ p = .written (lockMarker v) := by
  cases p with
  | written bs => rw [Place.lockCheck, lockValue_eq_some, Place.written.injEq]
  | erased => simp [Place.lockCheck]
  | damaged => simp [Place.lockCheck]

/-- A value and its inversion are not both 0xFFFF. -/
theorem lockMarker_not_blank (v : Word16) : (Place.written (lockMarker v)).isBlank = false := by
  rw [← Bool.not_eq_true, written_isBlank_iff]
  intro erased
  have same : lockMarker v = List.replicate 4 0xFF#8 := List.eq_replicate_iff.mpr ⟨lockMarker_length v, erased⟩
  have value := v.isLt
  obtain ⟨first, second⟩ := lockMarker_fields v
  rw [same] at first second
  have ones : fieldNat (List.replicate 4 0xFF#8) 0 2 = 65535 := rfl
  have ones' : fieldNat (List.replicate 4 0xFF#8) 2 2 = 65535 := rfl
  omega

theorem lockClass_blank {p : Place} (blank : p.isBlank = true) (r : Option Word16) : p.lockClass r = .blank := by
  rw [Place.lockClass, if_pos blank]

theorem lockClass_spoilt {p : Place} (used : p.isBlank = false) (noMarker : p.lockCheck = none) (r : Option Word16) :
    p.lockClass r = .spoilt := by
  rw [Place.lockClass, if_neg (by simp [used]), noMarker]

/-- A marker is spoilt by a record that passes with another check. -/
theorem lockClass_marker (v : Word16) (r : Option Word16) :
    (Place.written (lockMarker v)).lockClass r = if r.all (· == v) then .marked else .spoilt := by
  rw [Place.lockClass, if_neg (by simp [lockMarker_not_blank]), lockCheck_eq_some.mpr rfl]

/-! ### The completions (R161 to R163) -/

section
variable {s : State} (powered : s.supervisor.powered = true) (noReset : s.supervisor.resetPending = .none)
  (free : s.store.pending = false)
include powered noReset free

omit powered in
/-- An operation's end after an answer, with nothing pending. -/
theorem afterOperation_answered {t : State} (kind : RequestKind) (code : ResponseCode)
    (supervisor : t.supervisor = s.supervisor) (pending : t.store.pending = s.store.pending) :
    (t.answer kind code []).afterOperation = { t with
      port := waitAnswered t.port kind.byte [code.byte], store := { t.store with op := none } } := by
  rw [State.answer_eq, afterOperation_free, settleReset_of_none]
  · rfl
  · exact (congrArg Supervisor.resetPending supervisor).trans noReset
  · exact pending.trans free

theorem exec_configurationWritten {body : List Byte} (op : s.store.op = some (.programConfig body)) :
    exec (.configurationWriteComplete true) s = .next { s with
      port := waitAnswered s.port 0x06#8 [0#8]
      store := { s.store with
        op := none, completions := s.store.completions + 1, commissioning := .commissioned, condition := .good
        lock := .blank, working := some { record := Configuration.ofBytes body, check := crc16 body }
        array := { s.store.array with config := .written (body ++ checkBytes body) } } } := by
  have notDue : (s.configured body).resetDue = false := by simp [State.resetDue, State.configured, noReset]
  simp only [exec, execConfigurationWriteComplete, whenPowered_on powered, op, if_true]
  rw [if_neg (by simp [notDue]), afterOperation_answered noReset free]
  · rfl
  · rfl
  · rfl

theorem exec_configurationFailed {body : List Byte} (op : s.store.op = some (.programConfig body)) :
    ∃ place : Place, place.passing 98 = none ∧ exec (.configurationWriteComplete false) s = .next { s with
      port := waitAnswered s.port 0x06#8 [6#8], freeCount := s.freeCount + 1
      store := { s.store with
        op := none, array := { s.store.array with config := place }
        counters := { s.store.counters with
          programFailures := min 65535 (s.store.counters.programFailures + 1) } } } := by
  refine ⟨if s.draw.1 then .damaged else .erased, by cases s.draw.1 <;> rfl, ?_⟩
  simp only [exec, execConfigurationWriteComplete, whenPowered_on powered, op]
  rw [if_neg (by decide), afterOperation_answered noReset free, StoreCounters.programFailed, count16_eq_min]
  · rfl
  · rfl
  · rfl

theorem exec_lockWritten {v : Word16} (op : s.store.op = some (.programLock v)) :
    exec (.lockMarkerProgramComplete true) s = .next { s with
      port := waitAnswered s.port 0x07#8 [0#8]
      store := { s.store with
        op := none, commissioning := .locked, lock := .marked
        array := { s.store.array with lock := .written (lockMarker v) } } } := by
  simp only [exec, execLockMarkerProgramComplete, whenPowered_on powered, op, if_true]
  rw [afterOperation_answered noReset free]
  · rfl
  · rfl
  · rfl

theorem exec_lockFailed {v : Word16} (op : s.store.op = some (.programLock v)) :
    exec (.lockMarkerProgramComplete false) s = .next { s with
      port := waitAnswered s.port 0x07#8 [6#8]
      store := { s.store with
        op := none, lock := .spoilt, array := { s.store.array with lock := .damaged }
        counters := { s.store.counters with
          programFailures := min 65535 (s.store.counters.programFailures + 1) } } } := by
  simp only [exec, execLockMarkerProgramComplete, whenPowered_on powered, op]
  rw [if_neg (by decide), afterOperation_answered noReset free, StoreCounters.programFailed, count16_eq_min]
  · rfl
  · rfl
  · rfl

end

/-- Settles O54: the four completions, and the marker by its two fields. -/
theorem configurationAndLockComplete : Obligations.ConfigurationAndLockComplete := by
  refine ⟨fun s powered noReset free => ⟨fun body op => ⟨exec_configurationWritten powered noReset free op,
    exec_configurationFailed powered noReset free op⟩, fun v op => ⟨exec_lockWritten powered noReset free op,
    exec_lockFailed powered noReset free op⟩⟩, fun v w => ⟨rfl, lockMarker_length v, ?_, ?_, fun other => ?_,
    fun r => ⟨lockClass_blank rfl r, lockClass_spoilt rfl rfl r, lockClass_blank (by decide) r⟩⟩,
    fun p v => ⟨lockCheck_eq_some, fun r used noMarker => lockClass_spoilt used noMarker r⟩⟩
  · rw [lockClass_marker, if_pos (by simp)]
  · rw [lockClass_marker, if_pos (by simp)]
  · rw [lockClass_marker, if_neg (by simpa using other)]

end Sys2Proof.Machine

/-! SUPPORT. The power supervisor: the mains, power-off and the POWER reset (R178 to R185, R189). -/

namespace Sys2Proof.Machine

open Sys2Proof.Safety

/-! ### The mains (R178, R182, R183) -/

section
variable {s : State} (powered : s.supervisor.powered = true)
include powered

/-- An edge of MNS starts the measurement against the mains state and stops it towards it. -/
theorem exec_mnsEdge {level : Bool} (edge : s.pins.mns ≠ level) : exec (.mnsEdge level) s = .next { s with
    pins := { s.pins with mns := level }
    supervisor := { s.supervisor with
      measure := if s.supervisor.mains.against level then some s.meter.timebase else none } } := by
  simp only [exec, execMnsEdge]
  rw [if_neg edge, if_pos (by exact powered)]
  rfl

theorem exec_mainsMeasurementExpiry {since : Word32} (measured : s.supervisor.measure = some since) :
    exec .mainsMeasurementExpiry s =
      .next (if s.supervisor.mains.debounce ≤ (s.meter.timebase - since).toNat then s.mainsChange else s) := by
  simp only [exec, execMainsMeasurementExpiry, whenPowered_on powered, measured]
  rfl

end

section
variable {s : State}

theorem mainsChange_lost (mains : s.supervisor.mains = .present) : s.mainsChange =
    if s.supervisor.op = .run then
      State.notifyEntry (s.setSupervisor { s.supervisor with mains := .lost, measure := none, op := .holdUp })
    else s.setSupervisor { s.supervisor with mains := .lost, measure := none } := by
  simp only [State.mainsChange, mains]
  rfl

theorem mainsChange_back (mains : s.supervisor.mains = .lost) : s.mainsChange =
    if s.supervisor.op = .holdUp then
      State.notifyExit (s.setSupervisor { s.supervisor with mains := .present, measure := none, op := .run })
    else s.setSupervisor { s.supervisor with mains := .present, measure := none } := by
  simp only [State.mainsChange, mains]
  rfl

/-! ### The node reset (R179, R185, R189) -/

/-- A node reset leaves every block as its reset table says. -/
theorem resetLeaves_nodeReset (s : State) (kind : ResetKind) : ResetLeaves s.pins (s.nodeReset kind) := by
  constructor
  case channels =>
    intro x mem
    rcases List.mem_pair.mp mem with rfl | rfl <;> exact ⟨rfl, rfl, rfl, rfl⟩
  case lengthCode =>
    refine ⟨fun none => ?_, fun w some => ?_⟩
    · exact congrArg (fun w : Option Working => (w.map (·.record.lengthCode)).getD 2) none
    · exact congrArg (fun w : Option Working => (w.map (·.record.lengthCode)).getD 2) some
  all_goals repeat' constructor

theorem powerOff_array (idle : s.store.op = none) : s.powerOff.store.array = s.store.array := by
  rw [State.powerOff, idle]
  rfl

end

/-- Settles O56: the mains by its debounce and operating state, power-off and the POWER reset by the state they make. -/
theorem mainsAndPower : Obligations.MainsAndPower := by
  intro s
  refine ⟨fun powered high present => ?_, fun since powered measured present run due => ?_,
    fun since powered measured lost holdUp due => ?_, fun powered low present => ?_,
    fun powered lost => ⟨fun low => ?_, fun high => ?_⟩, ?_, fun powered inactive idle => ?_,
    fun off active high => ?_, fun powered start rise => ?_, fun powered occasion idle => ?_, fun off => ?_⟩
  · rw [exec_mnsEdge powered (by simp [high]), present]
    rfl
  · rw [exec_mainsMeasurementExpiry powered measured, if_pos (by rw [present]; exact due), mainsChange_lost present,
      if_pos run]
    rfl
  · rw [exec_mainsMeasurementExpiry powered measured, if_pos (by rw [lost]; exact due), mainsChange_back lost,
      if_pos holdUp]
    rfl
  · rw [exec_mnsEdge powered (by simp [low]), present]
    rfl
  · rw [exec_mnsEdge powered (by simp [low]), lost]
    rfl
  · rw [exec_mnsEdge powered (by simp [high]), lost]
    rfl
  · rintro since elapsed powered measured rfl
    rw [exec_mainsMeasurementExpiry powered measured]
    refine ⟨?_, fun start present due => ?_, fun start lost due => ?_⟩
    · rintro (⟨present, early⟩ | ⟨lost, early⟩)
      · rw [if_neg (by rw [present]; exact Nat.not_le.mpr early)]
      · rw [if_neg (by rw [lost]; exact Nat.not_le.mpr early)]
    · rw [if_pos (by rw [present]; exact due), mainsChange_lost present, if_neg (by simp [start])]
      rfl
    · rw [if_pos (by rw [lost]; exact due), mainsChange_back lost, if_neg (by simp [start])]
      rfl
  · have off : exec .sloAsserted s = .next (s.setPins { s.pins with slo := true }).powerOff := by
      simp only [exec, execSloAsserted]
      rw [if_neg (by simp [inactive]), if_pos (by exact powered)]
    exact ⟨_, off, rfl, powerOff_array (by exact idle), rfl, rfl, rfl, rfl, rfl⟩
  · simp only [exec, execSloInactive]
    rw [if_pos active, if_neg (by simp [off])]
    simp [Pins.powerUpMeasure, State.setPins, State.setSupervisor, high]
  · simp only [exec, execPowerOnLevel]
    rw [if_pos powered, if_pos ⟨start, rise⟩]
    rfl
  · have reset : exec .powerOnLevel s = .next (s.powerOff.nodeReset .power) := by
      simp only [exec, execPowerOnLevel]
      rw [if_pos powered, if_neg]
      rintro ⟨start, rise⟩
      exact occasion.elim (fun other => other start) fun made => by simp [made] at rise
    exact ⟨_, reset, rfl, rfl, rfl, powerOff_array idle, resetLeaves_nodeReset s.powerOff .power⟩
  · have reset : exec .powerOnLevel s = .next (s.nodeReset .power) := by
      simp only [exec, execPowerOnLevel]
      rw [if_neg (by simp [off])]
    refine ⟨_, reset, rfl, rfl, rfl, rfl, rfl, resetLeaves_nodeReset s .power, rfl, fun due => ?_⟩
    simp only [exec, execMainsReturnPowerUp]
    rw [if_pos (by simp [off, due, isDue])]
    rfl

end Sys2Proof.Machine

/-! SUPPORT. The collector port: requests received, executed and answered (R193 to R198, R209, R213). -/

namespace Sys2Proof.Machine

open Sys2Proof.Safety

/-! ### Request kinds (R196, R213) -/

theorem RequestKind.byte_range (k : RequestKind) : 1 ≤ k.byte.toNat ∧ k.byte.toNat ≤ 11 := by
  cases k <;> decide

theorem ofByte_byte (k : RequestKind) : RequestKind.ofByte k.byte = some k := by cases k <;> rfl

theorem ofByte_eq_none {b : Byte} (unknown : b.toNat = 0 ∨ 11 < b.toNat) : RequestKind.ofByte b = none := by
  refine List.find?_eq_none.mpr fun k _ same => ?_
  obtain ⟨low, high⟩ := k.byte_range
  rw [eq_of_beq same] at low high
  omega

/-! ### Requests that come as commands (R197) -/

section
variable {s : State}

/-- The commands of the collector serve their request, a COMMISSION body of the right length supposed. -/
theorem exec_request {i : Instr} {x : Request} (powered : s.supervisor.powered = true) (request : requestOf i = some x)
    (length : x.kind = 0x06#8 → x.body.length = 96) :
    ∃ kind body, x = ⟨RequestKind.byte kind, body⟩ ∧ exec i s = .next (s.serve kind body (State.execute x)) := by
  cases i <;> cases request
  case status => exact ⟨.status, [], rfl, whenPowered_on powered _⟩
  case account => exact ⟨.account, [], rfl, whenPowered_on powered _⟩
  case peekRecords n => exact ⟨.peekRecords, [n], rfl, whenPowered_on powered _⟩
  case takeRecords n => exact ⟨.takeRecords, [n], rfl, whenPowered_on powered _⟩
  case peers n => exact ⟨.peers, [n], rfl, whenPowered_on powered _⟩
  case commission body =>
    refine ⟨.commission, body, rfl, ?_⟩
    simp only [exec, execCommission, whenPowered_on powered]
    rw [if_pos (by exact length rfl)]
    rfl
  case lock => exact ⟨.lock, [], rfl, whenPowered_on powered _⟩
  case closePeriod => exact ⟨.closePeriod, [], rfl, whenPowered_on powered _⟩
  case restartBlock b => exact ⟨.restartBlock, [b], rfl, whenPowered_on powered _⟩
  case restartNode => exact ⟨.restartNode, [], rfl, whenPowered_on powered _⟩
  case clearCause => exact ⟨.clearCause, [], rfl, whenPowered_on powered _⟩

/-- In WAIT a request arrives whole: held in START, executed outside it. -/
theorem serve_wait {kind : RequestKind} {body : List Byte} (f : State → State) (wait : s.port.state = .wait) :
    s.serve kind body f =
      if s.supervisor.op = .start then
        s.setPort { s.port with state := .executing, held := some ⟨kind.byte, body⟩, begun := false }
      else f (s.setPort { s.port with state := .executing, held := some ⟨kind.byte, body⟩, begun := false }) := by
  simp only [State.serve, wait]
  rfl

/-! ### Receiving (R193 to R196) -/

/-- The port once a request has ended MALFORMED with this kind byte. -/
def Port.refused (p : Port) (kind : Byte) : Port :=
  { p with
    state := .responding, held := none, assembly := [], gap := none, begun := false
    response := some (envelope kind [5#8]) }

/-- A request that its length and its check bytes do not end yet goes on. -/
theorem portAssemble_continues {b : Byte} (more : s.port.assembly.length = 1 ∨ (2 ≤ s.port.assembly.length ∧
      ((s.port.assembly ++ [b]).getD 2 0#8).toNat ≤ 96 ∧
      s.port.assembly.length < ((s.port.assembly ++ [b]).getD 2 0#8).toNat + 4)) :
    s.portAssemble b = s.setPort { s.port with assembly := s.port.assembly ++ [b], gap := some 50 } := by
  have length : (s.port.assembly ++ [b]).length = s.port.assembly.length + 1 := List.length_append
  rcases more with first | ⟨third, short, open_⟩
  · exact if_pos (by omega)
  · simp only [State.portAssemble]
    rw [if_neg (by omega), if_neg (Nat.not_lt.mpr short), if_pos (by omega)]

theorem portAssemble_tooLong {kind b : Byte} (assembly : s.port.assembly = [0x5A#8, kind]) (long : 96 < b.toNat) :
    s.portAssemble b = { s with port := s.port.refused kind } := by
  simp only [State.portAssemble, assembly]
  rw [if_neg (by simp), if_pos (by exact long)]
  rfl

/-- The parts of a whole request: its last check byte completes it. -/
theorem portAssemble_completes {kind b1 b2 : Byte} {body : List Byte} (short : body.length ≤ 96)
    (assembly : s.port.assembly = 0x5A#8 :: kind :: BitVec.ofNat 8 body.length :: (body ++ [b1])) :
    s.portAssemble b2 =
      s.completeRequest (0x5A#8 :: kind :: BitVec.ofNat 8 body.length :: (body ++ [b1, b2])) := by
  have bytes : s.port.assembly ++ [b2] = 0x5A#8 :: kind :: BitVec.ofNat 8 body.length :: (body ++ [b1, b2]) := by
    simp [assembly]
  have length : (BitVec.ofNat 8 body.length).toNat = body.length := by
    rw [BitVec.toNat_ofNat]
    omega
  have whole : (0x5A#8 :: kind :: BitVec.ofNat 8 body.length :: (body ++ [b1, b2])).length = body.length + 5 := by
    simp
  simp only [State.portAssemble, bytes, whole]
  rw [if_neg (by omega), if_neg (by simpa [length] using short), if_neg (by simp [length])]

section
variable {kind l b1 b2 : Byte} {body : List Byte}

/-- The body, the bytes under the check and the check of a whole request. -/
theorem request_parts : let bytes := 0x5A#8 :: kind :: l :: (body ++ [b1, b2])
    (bytes.drop 3).take (bytes.length - 5) = body ∧ (bytes.drop 1).take (bytes.length - 3) = kind :: l :: body ∧
    bytes.drop (bytes.length - 2) = [b1, b2] := by
  refine ⟨?_, ?_, ?_⟩
  · simp
  · simp
  · simp

theorem completeRequest_holds {k : RequestKind} (check : [b1, b2] = checkBytes (kind :: l :: body))
    (known : RequestKind.ofByte kind = some k) (length : body.length = k.bodyLength) :
    s.completeRequest (0x5A#8 :: kind :: l :: (body ++ [b1, b2])) = s.setPort { s.port with
      state := .executing, assembly := [], gap := none, held := some ⟨kind, body⟩, begun := false } := by
  obtain ⟨rest, covered, last⟩ := request_parts (kind := kind) (l := l) (b1 := b1) (b2 := b2) (body := body)
  simp only [State.completeRequest, rest, covered, last, List.getD_cons_succ, List.getD_cons_zero, known]
  rw [if_pos (by simp [check, length])]

theorem completeRequest_refuses (bad : [b1, b2] ≠ checkBytes (kind :: l :: body) ∨ RequestKind.ofByte kind = none ∨
      ∃ k, RequestKind.ofByte kind = some k ∧ body.length ≠ k.bodyLength) :
    s.completeRequest (0x5A#8 :: kind :: l :: (body ++ [b1, b2])) = { s with port := s.port.refused kind } := by
  obtain ⟨rest, covered, last⟩ := request_parts (kind := kind) (l := l) (b1 := b1) (b2 := b2) (body := body)
  cases known : RequestKind.ofByte kind with
  | none =>
    simp only [State.completeRequest, List.getD_cons_succ, List.getD_cons_zero, known]
    rfl
  | some k =>
    simp only [State.completeRequest, rest, covered, last, List.getD_cons_succ, List.getD_cons_zero, known]
    rw [if_neg]
    · rfl
    · rw [Bool.and_eq_true, beq_iff_eq, beq_iff_eq]
      rintro ⟨check, length⟩
      rcases bad with wrong | unknown | ⟨k', known', other⟩
      · exact wrong check
      · simp [unknown] at known
      · exact other (by rw [length, Option.some_inj.mp (known'.symm.trans known)])

end

/-! ### The port's commands -/

section
variable (powered : s.supervisor.powered = true)
include powered

theorem exec_portByte_receiving (b : Byte) (receiving : s.port.state = .receiving) :
    exec (.portReceivedByte b) s = .next (s.portAssemble b) := by
  simp only [exec, execPortReceivedByte, whenPowered_on powered, receiving]

theorem exec_portByte_discarded (b : Byte) (elsewhere : s.port.state = .wait ∧ b ≠ 0x5A#8 ∨ s.port.state = .executing ∨
      s.port.state = .responding) : exec (.portReceivedByte b) s = .next { s with port := { s.port with
    discarded := min 65535 (s.port.discarded + 1) } } := by
  have counted : s.portDiscard = { s with port := { s.port with discarded := min 65535 (s.port.discarded + 1) } } := by
    rw [State.portDiscard, count16_eq_min]
    rfl
  rw [← counted]
  rcases elsewhere with ⟨wait, other⟩ | executing | responding
  · simp only [exec, execPortReceivedByte, whenPowered_on powered, wait]
    rw [if_neg other]
  · simp only [exec, execPortReceivedByte, whenPowered_on powered, executing]
  · simp only [exec, execPortReceivedByte, whenPowered_on powered, responding]

/-- A framing error, or an expired gap timer, ends a request MALFORMED. -/
theorem exec_ended (receiving : s.port.state = .receiving) :
    exec .portFramingError s = .next (s.malformed s.port.assembly) ∧
    (s.port.gap = some 0 → exec .gapTimerExpiry s = .next (s.malformed s.port.assembly)) := by
  constructor
  · simp only [exec, execPortFramingError, whenPowered_on powered]
    rw [if_pos receiving]
  · intro expired
    simp only [exec, execGapTimerExpiry, whenPowered_on powered]
    rw [if_pos (by simp [receiving, expired, isDue])]

theorem exec_responseSent (responding : s.port.state = .responding) (noReset : s.supervisor.resetPending = .none) :
    exec .responseSent s = .next { s with port := { s.port with state := .wait, held := none, response := none } } := by
  simp only [exec, execResponseSent, whenPowered_on powered]
  rw [if_pos responding, if_neg (by simp [State.setPort, noReset])]
  rfl

/-- The end of the response to RESTART-NODE makes the reset that it was answered for. -/
theorem exec_responseSent_resets (responding : s.port.state = .responding) (held : s.port.held = some ⟨0x0A#8, []⟩)
    (requested : s.supervisor.resetPending = .requested) (idle : s.store.op = none) :
    ∃ t : State, t.pins = s.pins ∧ t.store = s.store ∧ t.supervisor.cause = s.supervisor.cause ∧
      exec .responseSent s = .next (t.nodeReset .requested) := by
  refine ⟨(s.setPort { s.port with state := .wait, held := none, response := none }).setSupervisor
    { s.supervisor with armed := true }, rfl, rfl, rfl, ?_⟩
  simp only [exec, execResponseSent, whenPowered_on powered]
  rw [if_pos responding, if_pos (by simp [held, State.setPort, requested, RequestKind.byte])]
  simp [State.settleReset, State.setPort, State.setSupervisor, idle, requested]

/-- A request held since START is executed once START has ended. -/
theorem exec_heldRequestExecution {x : Request} (due : s.port.heldDue = true) (executing : s.port.state = .executing)
    (begun : s.port.begun = false) (held : s.port.held = some x) : exec .heldRequestExecution s =
      .next (State.execute x { s with port := { s.port with heldDue := false } }) := by
  simp only [exec, execHeldRequestExecution, whenPowered_on powered, State.setPort, due, if_true, held]
  rw [if_pos ⟨executing, by simp [begun]⟩]

theorem exec_heldRequestExecution_none (due : s.port.heldDue = true) (held : s.port.held = none) :
    exec .heldRequestExecution s = .next { s with port := { s.port with heldDue := false } } := by
  simp only [exec, execHeldRequestExecution, whenPowered_on powered, State.setPort, due, if_true, held]

end

end

/-- Settles O57: the kinds, the requests that come whole, then the port by its state. -/
theorem portReceivesAndResponds : Obligations.PortReceivesAndResponds := by
  refine ⟨⟨rfl, fun b => ofByte_eq_none, fun k => by cases k <;> rfl, fun kind body => rfl⟩,
    fun s i x held powered request length port => ?_, fun s powered => ?_⟩
  · obtain ⟨kind, body, rfl, command⟩ := exec_request powered request length
    subst port
    refine ⟨fun executing begun same outside => ?_, fun wait outside => ?_, fun wait start => ?_⟩
    · rw [command, State.serve_held executing same begun outside]
    · rw [command, serve_wait _ wait, if_neg outside]
      rfl
    · rw [command, serve_wait _ wait, if_pos start]
      rfl
  · refine ⟨fun elsewhere => ?_, fun wait => ?_, fun elsewhere b other => ?_, fun b receiving more => ?_,
      fun kind b receiving assembly long => ?_, fun kind b1 b2 body receiving short assembly =>
        ⟨fun k check known length => ?_, fun bad => ?_⟩, fun kind more receiving assembly => ?_,
      exec_responseSent powered, fun responding held requested idle => ?_, fun elsewhere => ?_,
      fun receiving assembly => ?_, fun due => ⟨fun x => exec_heldRequestExecution powered due,
        exec_heldRequestExecution_none powered due⟩, fun due executing begun held => ?_⟩
    · simp only [exec, execPortFramingError, whenPowered_on powered]
      rw [if_neg elsewhere]
    · simp only [exec, execPortReceivedByte, whenPowered_on powered, wait]
      rfl
    · exact exec_portByte_discarded powered b (elsewhere.imp_left fun wait => ⟨wait, other⟩)
    · rw [exec_portByte_receiving powered b receiving, portAssemble_continues more]
      rfl
    · rw [exec_portByte_receiving powered b receiving, portAssemble_tooLong assembly long]
      rfl
    · rw [exec_portByte_receiving powered b2 receiving, portAssemble_completes short assembly,
        completeRequest_holds check known length]
      rfl
    · rw [exec_portByte_receiving powered b2 receiving, portAssemble_completes short assembly,
        completeRequest_refuses bad]
      rfl
    · obtain ⟨framing, gap⟩ := exec_ended powered receiving
      rw [assembly] at framing gap
      exact ⟨framing, gap⟩
    · obtain ⟨t, pins, store, cause, reset⟩ := exec_responseSent_resets powered responding held requested idle
      have array : (t.nodeReset .requested).store.array = t.store.array := rfl
      refine ⟨_, reset, rfl, ?_, array.trans (congrArg Store.array store),
        pins ▸ resetLeaves_nodeReset t .requested⟩
      rw [← cause, ← count16_eq_min]
      rfl
    · exact exec_portByte_discarded powered _ (.inr elsewhere)
    · obtain ⟨framing, gap⟩ := exec_ended powered receiving
      rw [assembly] at framing gap
      exact ⟨framing, gap⟩
    · rw [exec_heldRequestExecution powered due executing begun held]
      exact congrArg Host.Outcome.next (State.runClearCause_of_not_begun
        (s := { s with port := { s.port with heldDue := false } }) begun)

end Sys2Proof.Machine

/-! SUPPORT. The layouts of the settlement record and of the peer entry (R213, R214). -/

namespace Sys2Proof.Machine

open Sys2Proof.Safety

/-! ### Numbers that share a byte (R210) -/

theorem byteOf_toNat {n : Nat} (small : n < 256) : (byteOf n).toNat = n := by
  rw [byteOf, BitVec.toNat_ofNat]
  exact Nat.mod_eq_of_lt small

theorem flagBit_le (b : Bool) : flagBit b ≤ 1 := by cases b <;> decide

theorem flagBit_isSome {α : Type} (x : Option α) : flagBit x.isSome = if x = none then 0 else 1 := by
  cases x <;> rfl

theorem SupplyState.code_le (x : SupplyState) : x.code ≤ 2 := by cases x <;> decide

theorem SupplySource.code_le (x : SupplySource) : x.code ≤ 2 := by cases x <;> decide

theorem Mode.code_le (x : Mode) : x.code ≤ 2 := by cases x <;> decide

theorem Role.code_le (x : Role) : x.code ≤ 2 := by cases x <;> decide

theorem Direction.code_le (x : Direction) : x.code ≤ 1 := by cases x <;> decide

theorem EntryState.code_le (x : EntryState) : x.code ≤ 3 := by cases x <;> decide

theorem SlotStatus.code_le (x : SlotStatus) : x.code ≤ 3 := by cases x <;> decide

theorem supplyCode_le (x : Option SupplyState) : supplyCode x ≤ 3 := by
  cases x with
  | none => exact le_rfl
  | some x => exact x.code_le.trans (by decide)

/-! ### The settlement record (R214) -/

@[simp] theorem village_length (v : VillageBlock) : v.bytes.length = 10 := by simp [VillageBlock.bytes]

@[simp] theorem price_length (p : PriceBlock) : p.bytes.length = 17 := by simp [PriceBlock.bytes]

/-- The form byte, bit by bit. -/
theorem formByte_toNat (x : SettlementRecord) : x.formByte.toNat = x.mode.code + 4 * (if x.cutShort then 1 else 0) +
    8 * x.role.code + 32 * (if x.saturated then 1 else 0) + 64 * (if x.village = none then 0 else 1) +
    128 * (if x.price = none then 0 else 1) := by
  have mode := x.mode.code_le
  have role := x.role.code_le
  have cutShort := flagBit_le x.cutShort
  have saturated := flagBit_le x.saturated
  have village := flagBit_le x.village.isSome
  have price := flagBit_le x.price.isSome
  rw [SettlementRecord.formByte, byteOf_toNat (by omega), flagBit_isSome, flagBit_isSome]
  rfl

/-- The bytes of an optional block. -/
theorem block_length {α : Type} {x : Option α} {bytes : α → List Byte} {n : Nat} (length : ∀ y, (bytes y).length = n) :
    ((x.map bytes).getD []).length = if x = none then 0 else n := by
  cases x with
  | none => rfl
  | some y => exact length y

/-- The 11 bytes before the optional blocks, and the blocks and the balance behind them. -/
theorem settlement_split (x : SettlementRecord) : ∃ head, head.length = 11 ∧
    x.bytes = head ++ ((x.village.map VillageBlock.bytes).getD [] ++ ((x.price.map PriceBlock.bytes).getD [] ++
      beInt 6 x.balance)) :=
  ⟨beBytes 4 x.interval ++ beBytes 1 x.band ++ [byteOf (x.supplyState.code + 4 * x.source.code), x.formByte]
    ++ beBytes 2 x.ownExport ++ beBytes 2 x.ownImport, by simp, by simp [SettlementRecord.bytes]⟩

theorem settlementAt_bytes {x : SettlementRecord} (h : SettlementInRange x) : SettlementAt x.bytes x := by
  obtain ⟨interval, band, ⟨ownExport, ownImport⟩, village, price, low, high⟩ := h
  obtain ⟨head, headLength, split⟩ := settlement_split x
  have villageLength := block_length (x := x.village) village_length
  have priceLength := block_length (x := x.price) price_length
  have length : x.bytes.length = 17 + (if x.village = none then 0 else 10) + (if x.price = none then 0 else 17) := by
    rw [split, List.length_append, List.length_append, List.length_append, headLength, villageLength, priceLength,
      beInt_length]
    omega
  constructor
  case size => exact length
  case interval =>
    simp [SettlementRecord.bytes, fieldNat_beBytes_append]
    omega
  case band =>
    simp [SettlementRecord.bytes, fieldNat_skip, fieldNat_beBytes_append]
    omega
  case supplyByte =>
    have state := x.supplyState.code_le
    have source := x.source.code_le
    simp [SettlementRecord.bytes, fieldNat_skip, fieldNat_cons_head]
    exact byteOf_toNat (by omega)
  case formByte =>
    rw [← formByte_toNat]
    simp [SettlementRecord.bytes, fieldNat_skip, fieldNat_cons_skip, fieldNat_cons_head]
  case own =>
    simp [SettlementRecord.bytes, fieldNat_skip, fieldNat_cons_skip, fieldNat_beBytes_append]
    omega
  case village =>
    intro v held
    obtain ⟨counted, expected, supply, demand⟩ := village v held
    have field : fieldBytes x.bytes 11 10 = v.bytes := by
      rw [split, held, fieldBytes_skip headLength.le, headLength]
      exact fieldBytes_head (village_length v)
    simp [fieldNat_of_field (o := 11) (a := 0) field, fieldNat_of_field (o := 11) (a := 1) field,
      fieldNat_of_field (o := 11) (a := 2) field, fieldNat_of_field (o := 11) (a := 6) field]
    simp [VillageBlock.bytes, fieldNat_skip, fieldNat_beBytes_append, fieldNat_beBytes]
    omega
  case price =>
    rintro b o held rfl
    obtain ⟨matched, unmatched, peerPrice, secondPrice, amount, levy⟩ := price b held
    have direction := b.direction.code_le
    have field : fieldBytes x.bytes (if x.village = none then 11 else 21) 17 = b.bytes := by
      rw [split, held, fieldBytes_skip (by rw [headLength]; split <;> decide),
        fieldBytes_skip (by rw [villageLength, headLength]; split <;> decide), villageLength, headLength]
      cases x.village <;> exact fieldBytes_head (price_length b)
    have first := fieldNat_of_field (n := 2) (a := 0) field (by decide)
    rw [Nat.add_zero] at first
    simp [first, fieldNat_of_field field]
    simp [PriceBlock.bytes, fieldNat_skip, fieldNat_beBytes_append, fieldNat_beBytes]
    omega
  case balance =>
    have whole : x.bytes = (head ++ ((x.village.map VillageBlock.bytes).getD [] ++
        (x.price.map PriceBlock.bytes).getD [])) ++ beInt 6 x.balance := by simp [split]
    rw [length, whole, List.drop_left', beSigned_beInt (by norm_num; omega) (by norm_num; omega)]
    rw [List.length_append, List.length_append, headLength, villageLength, priceLength]
    omega

/-! ### The peer entry (R213) -/

@[simp] theorem slot_length (y : Slot) : y.bytes.length = 9 := by simp [Slot.bytes]

@[simp] theorem anchor_length (a : Anchor) : a.bytes.length = 12 := by simp [Anchor.bytes]

/-- One of equally long items in a row. -/
theorem fieldBytes_flatten {α : Type} {bytes : α → List Byte} {n : Nat} (length : ∀ y, (bytes y).length = n)
    {xs : List α} {i : Nat} {y : α} (place : xs[i]? = some y) :
    fieldBytes (xs.map bytes).flatten (n * i) n = bytes y := by
  induction xs generalizing i with
  | nil => cases place
  | cons x xs ih =>
    rw [List.map_cons, List.flatten_cons]
    cases i with
    | zero =>
      rw [List.getElem?_cons_zero, Option.some_inj] at place
      rw [Nat.mul_zero, fieldBytes_head (length x), place]
    | succ i =>
      rw [List.getElem?_cons_succ] at place
      rw [Nat.mul_succ, fieldBytes_skip (by rw [length]; omega), length, Nat.add_sub_cancel, ih place]

theorem flatten_length {α : Type} {bytes : α → List Byte} {n : Nat} (length : ∀ y, (bytes y).length = n)
    (xs : List α) : (xs.map bytes).flatten.length = n * xs.length := by
  induction xs with
  | nil => rfl
  | cons x xs ih => rw [List.map_cons, List.flatten_cons, List.length_append, length, ih, List.length_cons]; ring

/-- The flags byte, bit by bit. -/
theorem flags_toNat {e : Entry} (slots : e.slots.length ≤ 3) : e.flags.toNat = e.state.code +
    4 * (if e.restartedSeen then 1 else 0) + 8 * (if e.lead = none then 0 else 1) +
    16 * (if e.anchor = none then 0 else 1) + 32 * e.slots.length := by
  have state := e.state.code_le
  have restarted := flagBit_le e.restartedSeen
  have lead := flagBit_le e.lead.isSome
  have anchor := flagBit_le e.anchor.isSome
  rw [Entry.flags, byteOf_toNat (by omega), flagBit_isSome, flagBit_isSome]
  rfl

/-- A held slot's status byte, bit by bit. -/
theorem slotByte_toNat (y : Slot) : (byteOf (y.status.code + 4 * supplyCode y.supply + 16 * flagBit y.saturated +
    32 * flagBit y.senderHeld)).toNat = y.status.code + 4 * supplyCode y.supply + 16 * (if y.saturated then 1 else 0) +
    32 * (if y.senderHeld then 1 else 0) := by
  have status := y.status.code_le
  have supply := supplyCode_le y.supply
  have saturated := flagBit_le y.saturated
  have held := flagBit_le y.senderHeld
  rw [byteOf_toNat (by omega)]
  rfl

theorem entryAt_bytes {e : Entry} (h : EntryInRange e) : EntryAt e.bytes e := by
  obtain ⟨⟨id, age, heard⟩, lead, anchor, slots, items⟩ := h
  have leadLength := block_length (x := e.lead) (bytes := beInt 4) (fun n => beInt_length 4 n)
  have anchorLength := block_length (x := e.anchor) anchor_length
  have split : ∃ head, head.length = 5 ∧ e.bytes = head ++ ((e.lead.map (beInt 4)).getD [] ++
      ((e.anchor.map Anchor.bytes).getD [] ++ (e.slots.map Slot.bytes).flatten)) :=
    ⟨beBytes 1 e.id ++ [e.flags] ++ beBytes 1 e.age ++ beBytes 2 e.heard, by simp, by simp [Entry.bytes]⟩
  obtain ⟨head, headLength, split⟩ := split
  constructor
  case size =>
    rw [split, List.length_append, List.length_append, List.length_append, headLength, leadLength, anchorLength,
      flatten_length slot_length]
    omega
  case id =>
    simp [Entry.bytes, fieldNat_beBytes_append]
    omega
  case flags =>
    rw [← flags_toNat slots]
    simp [Entry.bytes, fieldNat_skip, fieldNat_cons_head]
  case age =>
    simp [Entry.bytes, fieldNat_skip, fieldNat_cons_skip, fieldNat_beBytes_append]
    omega
  case heard =>
    simp [Entry.bytes, fieldNat_skip, fieldNat_cons_skip, fieldNat_beBytes_append]
    omega
  case lead =>
    intro n held
    obtain ⟨low, high⟩ := lead n held
    have field : fieldBytes e.bytes 5 4 = beInt 4 n := by
      rw [split, held, fieldBytes_skip headLength.le, headLength]
      exact fieldBytes_head (beInt_length 4 n)
    rw [field, beSigned_beInt (by norm_num; omega) (by norm_num; omega)]
  case anchor =>
    rintro a o held rfl
    have interval := anchor a held
    have cumExport := a.cumExport.isLt
    have cumImport := a.cumImport.isLt
    have field : fieldBytes e.bytes (5 + if e.lead = none then 0 else 4) 12 = a.bytes := by
      rw [split, held, fieldBytes_skip (by rw [headLength]; omega),
        fieldBytes_skip (by rw [leadLength, headLength]; omega), leadLength, headLength,
        Nat.add_sub_cancel_left, Nat.sub_self]
      exact fieldBytes_head (anchor_length a)
    have first := fieldNat_of_field (n := 4) (a := 0) field (by decide)
    rw [Nat.add_zero] at first
    simp [first, fieldNat_of_field field]
    simp [Anchor.bytes, fieldNat_skip, fieldNat_beBytes_append, fieldNat_beBytes]
    omega
  case slots =>
    rintro i y o place rfl
    obtain ⟨label, exported, imported⟩ := items y (List.mem_of_getElem? place)
    have field : fieldBytes e.bytes
        (5 + (if e.lead = none then 0 else 4) + (if e.anchor = none then 0 else 12) + 9 * i) 9 = y.bytes := by
      rw [split, fieldBytes_skip (by rw [headLength]; omega), fieldBytes_skip (by rw [leadLength, headLength]; omega),
        fieldBytes_skip (by rw [anchorLength, leadLength, headLength]; omega), leadLength, headLength, anchorLength,
        ← fieldBytes_flatten slot_length place]
      congr 1
      omega
    have first := fieldNat_of_field (n := 4) (a := 0) field (by decide)
    rw [Nat.add_zero] at first
    rw [first, fieldNat_of_field field (by decide), fieldNat_of_field field (by decide),
      fieldNat_of_field field (by decide), ← slotByte_toNat]
    simp [Slot.bytes, fieldNat_skip, fieldNat_cons_skip, fieldNat_cons_head, fieldNat_beBytes_append, fieldNat_beBytes]
    omega

end Sys2Proof.Machine

/-! SUPPORT. The status block and the reading requests of the collector (R146, R147, R197, R199, R213). -/

namespace Sys2Proof.Machine

open Sys2Proof.Safety

/-! ### Items in a row (R199, R210) -/

/-- The bytes of items, each in its width. -/
def itemBytes (xs : List (Nat × Nat)) : List Byte := (xs.map fun x => beBytes x.1 x.2).flatten

@[simp] theorem itemBytes_nil : itemBytes [] = [] := rfl

@[simp] theorem itemBytes_cons (x : Nat × Nat) (xs : List (Nat × Nat)) :
    itemBytes (x :: xs) = beBytes x.1 x.2 ++ itemBytes xs := rfl

@[simp] theorem itemBytes_append (xs ys : List (Nat × Nat)) : itemBytes (xs ++ ys) = itemBytes xs ++ itemBytes ys := by
  simp [itemBytes]

theorem beBytes_flagItem (b : Bool) : beBytes (flagItem b).1 (flagItem b).2 = [flagByte b] :=
  (flagByte_eq_beBytes b).symm

theorem itemBytes_option (n : Nat) (v : Option Nat) : itemBytes (optionItems n v) = optionBytes n v := by
  cases v <;> simp [optionItems, optionBytes] <;> rfl

theorem itemBytes_slot (x : Option SlotRef) : itemBytes (slotItems x) = slotRefBytes x := by
  cases x <;> simp [slotItems, slotRefBytes] <;> rfl

theorem itemBytes_channel (x : MeterChannel) : itemBytes (channelItems x) = x.status := by
  simp [channelItems, MeterChannel.status, itemBytes_option]

/-- The items of the supply record ring. -/
theorem itemBytes_ring (ring : List SupplyRecord) :
    itemBytes (ring.map fun x => [(4, x.interval), (1, x.state.code), (1, x.source.code)]).flatten =
      (ring.map SupplyRecord.bytes).flatten := by
  induction ring with
  | nil => rfl
  | cons x ring ih => simp [ih, SupplyRecord.bytes]

theorem statusBlock_eq (s : State) : s.statusBlock = itemBytes (statusItems s) := by
  unfold statusItems
  cases feeder : s.supply.lastFeeder <;>
  · simp [State.statusBlock, Meter.status, Clock.status, Link.status, LinkCounters.status, Peers.status,
      TableCounters.status, Reckoning.status, Supply.status, SettlementQueue.status, Outputs.status, Store.status,
      Supervisor.status, itemBytes_channel, itemBytes_option, itemBytes_slot, itemBytes_ring, beBytes_flagItem, feeder,
      feederBytes]
    rfl

/-- The store state's number. -/
theorem stateCode_of_failed {t : Store} (failed : t.failed = true) : t.stateCode = 3 := by
  rw [Store.stateCode, if_pos failed]

theorem stateCode_of_op {t : Store} (failed : t.failed = false) :
    (t.op = none → t.stateCode = 0) ∧
    (∀ n v body bytes final, t.op = some (.programConfig body) ∨ t.op = some (.programLock v) ∨
      t.op = some (.programSlot n bytes 1 final) ∨ t.op = some (.programSlot n bytes 2 final) → t.stateCode = 1) ∧
    (∀ k n body r, t.op = some (.eraseConfig body n) ∨ t.op = some (.eraseSector k n r) → t.stateCode = 2) := by
  unfold Store.stateCode
  rw [failed]
  refine ⟨fun none => ?_, ?_, ?_⟩
  · rw [none]
    rfl
  · rintro n v body bytes final (op | op | op | op) <;> rw [op] <;> rfl
  · rintro k n body r (op | op) <;> rw [op] <;> rfl

/-! ### A request in execution (R197, R198) -/

/-- The node with the request in execution that has come whole in WAIT. -/
def State.holding (s : State) (x : Request) : State :=
  s.setPort { s.port with state := .executing, held := some x, begun := false }

section
variable {s : State}

/-- Outside START a request that comes in WAIT is executed at once. -/
theorem exec_whole {i : Instr} {x : Request} (powered : s.supervisor.powered = true)
    (outside : s.supervisor.op ≠ .start) (wait : s.port.state = .wait) (request : requestOf i = some x)
    (length : x.kind = 0x06#8 → x.body.length = 96) : exec i s = .next (State.execute x (s.holding x)) := by
  obtain ⟨kind, body, rfl, command⟩ := exec_request powered request length
  rw [command, serve_wait _ wait, if_neg outside]
  rfl

/-- The response to a request in execution. -/
theorem respond_holding (s : State) (x : Request) (code : ResponseCode) (contents : List Byte) :
    (s.holding x).respond x.kind code contents = { s with port := answered s.port x (code.byte :: contents) } := rfl

/-! ### The execution of the reading requests (R146, R147, R199) -/

theorem countAccepted_eq_true {n : Byte} (low : 1 ≤ n.toNat) (high : n.toNat ≤ 4) : countAccepted n = true := by
  rw [countAccepted, decide_eq_true low, decide_eq_true high, Bool.and_self]

theorem countAccepted_eq_false {n : Byte} (outside : n.toNat = 0 ∨ 4 < n.toNat) : countAccepted n = false := by
  rw [countAccepted, Bool.and_eq_false_iff, decide_eq_false_iff_not, decide_eq_false_iff_not]
  omega

theorem runPeek_answers {n : Byte} (accepted : countAccepted n = true) : s.runPeek n =
    s.respond 0x03#8 .ok (recordsBody s.queue.records.length (s.queue.records.take n.toNat)) := by
  rw [State.runPeek, if_pos accepted]
  rfl

theorem runTake_answers {n : Byte} (accepted : countAccepted n = true) : s.runTake n =
    (s.setQueue { s.queue with records := s.queue.records.drop n.toNat }).respond 0x04#8 .ok
      (recordsBody (s.queue.records.drop n.toNat).length (s.queue.records.take n.toNat)) := by
  rw [State.runTake, if_pos accepted]
  rfl

theorem runPeek_refuses {n : Byte} (refused : countAccepted n = false) :
    s.runPeek n = s.respond 0x03#8 .badValue [1#8] := by
  rw [State.runPeek, if_neg (by simp [refused])]
  rfl

theorem runTake_refuses {n : Byte} (refused : countAccepted n = false) :
    s.runTake n = s.respond 0x04#8 .badValue [1#8] := by
  rw [State.runTake, if_neg (by simp [refused])]
  rfl

/-! ### PEERS (R87, R213) -/

/-- Sound entries are read in order while there is room for them. -/
theorem readEntries_sound (count room : Nat) (es : List Entry) (sound : ∀ e ∈ es, e.parity = true) :
    ∃ xs left, readEntries count room es = (xs, []) ∧ es = xs ++ left ∧ xs.length ≤ count ∧
      (xs.map Entry.bytes).flatten.length ≤ room ∧
      ∀ e more, left = e :: more → xs.length = count ∨ room < ((xs ++ [e]).map Entry.bytes).flatten.length := by
  induction es generalizing count room with
  | nil => exact ⟨[], [], by cases count <;> rfl, rfl, Nat.zero_le _, Nat.zero_le _, fun e more cut => nomatch cut⟩
  | cons e es ih =>
    cases count with
    | zero => exact ⟨[], e :: es, rfl, rfl, Nat.zero_le _, Nat.zero_le _, fun _ _ _ => .inl rfl⟩
    | succ count =>
      rcases Nat.lt_or_ge room e.bytes.length with full | fits
      · refine ⟨[], e :: es, ?_, rfl, Nat.zero_le _, Nat.zero_le _, fun e' more cut => .inr ?_⟩
        · rw [readEntries, if_pos full]
        · obtain ⟨rfl, -⟩ := List.cons.inj cut
          simpa using full
      · obtain ⟨xs, left, read, split, few, short, ends⟩ := ih count (room - e.bytes.length)
          fun x mem => sound x (List.mem_cons_of_mem e mem)
        refine ⟨e :: xs, left, ?_, by rw [split, List.cons_append], Nat.succ_le_succ few, ?_, fun e' more cut => ?_⟩
        · rw [readEntries, if_neg (Nat.not_lt.mpr fits), if_pos (sound e List.mem_cons_self), read]
        · rw [List.map_cons, List.flatten_cons, List.length_append]
          omega
        · rw [List.cons_append, List.map_cons, List.flatten_cons, List.length_append, List.length_cons]
          have := ends e' more cut
          omega

theorem runPeers_sound {i : Byte} (position : i.toNat ≤ 47) {xs : List Entry}
    (read : readEntries 8 251 (s.peers.entries.drop i.toNat) = (xs, [])) : s.runPeers i =
      s.respond 0x05#8 .ok
        (byteOf s.peers.entries.length :: i :: byteOf xs.length :: (xs.map Entry.bytes).flatten) := by
  have kept : (s.peers.entries.filter fun e => !([] : List Nat).contains e.id) = s.peers.entries := by simp
  simp only [State.runPeers, peersLimit, peersRoom, read, kept, List.length_nil, TableCounters.discards, if_true]
  rw [if_pos position]
  rfl

/-- A single entry that fails its parity check is freed and left out. -/
theorem runPeers_unsound {i : Byte} (position : i.toNat = 0) {e : Entry} (entries : s.peers.entries = [e])
    (failed : e.parity = false) (fits : e.bytes.length ≤ 251) : s.runPeers i =
      (s.setPeers { s.peers with
        entries := []
        counters := { s.peers.counters with
          parityDiscards := min 65535 (s.peers.counters.parityDiscards + 1) } }).respond 0x05#8 .ok
        [0#8, i, 0#8] := by
  have read : readEntries 8 251 [e] = ([], [e.id]) := by
    rw [readEntries, if_neg (Nat.not_lt.mpr fits), if_neg (by simp [failed])]
    rfl
  have freed : ([e].filter fun x => !([e.id].contains x.id)) = [] := by simp
  simp only [State.runPeers, peersLimit, peersRoom, position, entries, List.drop_zero, read, freed]
  rw [if_pos (by decide)]
  rfl

theorem runPeers_refuses {i : Byte} (position : 47 < i.toNat) : s.runPeers i = s.respond 0x05#8 .badValue [1#8] := by
  rw [State.runPeers, if_neg (Nat.not_le.mpr position)]
  rfl

end

/-- Settles O58: the layouts, the status block item by item, and each request by its execution. -/
theorem readingRequestsAnswer : Obligations.ReadingRequestsAnswer := by
  refine ⟨fun x => settlementAt_bytes, fun e => entryAt_bytes, fun a => ledgerAt_bytes, statusBlock_eq, by decide,
    fun t => ⟨stateCode_of_failed, stateCode_of_op⟩, fun s powered outside wait => ?_⟩
  have whole {i : Instr} {x : Request} (request : requestOf i = some x) (other : x.kind ≠ 0x06#8) :=
    exec_whole powered outside wait request fun commission => absurd commission other
  refine ⟨fun counters last => ?_, fun account => ?_, fun n low high => ⟨?_, ?_⟩, fun n refused => ⟨?_, ?_⟩,
    fun i position => ⟨fun sound => ?_, fun e first entries failed fits => ?_⟩, fun i position => ?_⟩
  · have checked : (s.meter.countersOk && s.reckoning.lastParity) = true := by rw [counters, last]; rfl
    rw [whole (i := .status) rfl (by simp)]
    exact congrArg Host.Outcome.next (if_pos checked)
  · rw [whole (i := .account) rfl (by simp)]
    exact congrArg Host.Outcome.next (if_pos account)
  · rw [whole (i := .peekRecords n) rfl (by simp)]
    exact congrArg Host.Outcome.next (runPeek_answers (countAccepted_eq_true low high))
  · rw [whole (i := .takeRecords n) rfl (by simp)]
    exact congrArg Host.Outcome.next (runTake_answers (countAccepted_eq_true low high))
  · rw [whole (i := .peekRecords n) rfl (by simp)]
    exact congrArg Host.Outcome.next (runPeek_refuses (countAccepted_eq_false refused))
  · rw [whole (i := .takeRecords n) rfl (by simp)]
    exact congrArg Host.Outcome.next (runTake_refuses (countAccepted_eq_false refused))
  · obtain ⟨xs, left, read, split, few, short, ends⟩ := readEntries_sound 8 251 (s.peers.entries.drop i.toNat)
      fun e mem => sound e (List.mem_of_mem_drop mem)
    refine ⟨xs, left, split, few, short, ends, ?_⟩
    rw [whole (i := .peers i) rfl (by simp)]
    exact congrArg Host.Outcome.next (runPeers_sound position read)
  · rw [whole (i := .peers i) rfl (by simp)]
    exact congrArg Host.Outcome.next (runPeers_unsound first entries failed fits)
  · rw [whole (i := .peers i) rfl (by simp)]
    exact congrArg Host.Outcome.next (runPeers_refuses position)

end Sys2Proof.Machine

/-! SUPPORT. The fields of a COMMISSION body and the first of them that is not accepted (R201, R215). -/

namespace Sys2Proof.Machine

open Sys2Proof.Safety

/-! ### The fields of a body (R215) -/

section
variable {bs : List Byte} {o n : Nat}

@[simp] theorem fieldNat_zero : fieldNat bs o 0 = 0 := by simp [fieldNat, fieldBytes]

/-- A field longer by a byte. -/
theorem fieldNat_succ (inside : o + n < bs.length) :
    fieldNat bs o (n + 1) = fieldNat bs o n * 256 + (bs.getD (o + n) 0#8).toNat := by
  have next : fieldBytes bs o (n + 1) = fieldBytes bs o n ++ [bs.getD (o + n) 0#8] := by
    simp [fieldBytes, List.take_add_one, List.getElem?_drop, List.getElem?_eq_getElem inside]
  rw [fieldNat, next, beNat_append, beNat_singleton, List.length_singleton, pow_one, fieldNat]

theorem fieldNat_one (inside : o < bs.length) : fieldNat bs o 1 = (bs.getD o 0#8).toNat := by
  rw [fieldNat_succ (n := 0) inside, fieldNat_zero, Nat.zero_mul, Nat.zero_add, Nat.add_zero]

theorem fieldNat_two (inside : o + 1 < bs.length) :
    fieldNat bs o 2 = (bs.getD o 0#8).toNat * 256 + (bs.getD (o + 1) 0#8).toNat := by
  rw [fieldNat_succ inside, fieldNat_one (by omega)]

theorem fieldNat_four (inside : o + 3 < bs.length) : fieldNat bs o 4 =
    (((bs.getD o 0#8).toNat * 256 + (bs.getD (o + 1) 0#8).toNat) * 256 + (bs.getD (o + 2) 0#8).toNat) * 256 +
      (bs.getD (o + 3) 0#8).toNat := by
  rw [fieldNat_succ inside, fieldNat_succ (by omega), fieldNat_two (by omega)]

theorem fieldNat_six (inside : o + 5 < bs.length) : fieldNat bs o 6 =
    (((((bs.getD o 0#8).toNat * 256 + (bs.getD (o + 1) 0#8).toNat) * 256 + (bs.getD (o + 2) 0#8).toNat) * 256 +
      (bs.getD (o + 3) 0#8).toNat) * 256 + (bs.getD (o + 4) 0#8).toNat) * 256 + (bs.getD (o + 5) 0#8).toNat := by
  rw [fieldNat_succ inside, fieldNat_succ (by omega), fieldNat_four (by omega)]

/-- A six-byte field as a signed number. -/
theorem beSigned_six (inside : o + 5 < bs.length) :
    (fieldNat bs o 6 < 2 ^ 47 → beSigned (fieldBytes bs o 6) = fieldNat bs o 6) ∧
    (2 ^ 47 ≤ fieldNat bs o 6 → beSigned (fieldBytes bs o 6) = (fieldNat bs o 6 : Int) - 2 ^ 48) := by
  have value : beNat (fieldBytes bs o 6) = fieldNat bs o 6 := rfl
  unfold beSigned
  rw [fieldBytes_length (by omega), value]
  constructor
  · intro low
    rw [if_pos (by norm_num; omega)]
  · intro high
    rw [if_neg (by norm_num; omega)]
    norm_num

end

/-- The bands and the prices of a body. -/
theorem ofBytes_lists {body : List Byte} (length : body.length = 96) :
    (Configuration.ofBytes body).bandMap.length = 24 ∧
    (∀ h, h < 24 → (Configuration.ofBytes body).bandMap.getD h 0 = (body.getD (19 + h) 0#8).toNat) ∧
    (Configuration.ofBytes body).prices.length = 20 ∧
    ∀ p, p < 20 → (Configuration.ofBytes body).prices.getD p 0 =
      (body.getD (43 + 2 * p) 0#8).toNat * 256 + (body.getD (44 + 2 * p) 0#8).toNat := by
  refine ⟨by simp [Configuration.ofBytes], fun h inside => ?_, by simp [Configuration.ofBytes], fun p inside => ?_⟩
  · rw [← fieldNat_one (by omega)]
    simp [Configuration.ofBytes, inside]
  · have next : 44 + 2 * p = 43 + 2 * p + 1 := by omega
    rw [next, ← fieldNat_two (by omega)]
    simp [Configuration.ofBytes, inside]

/-! ### The first field that fails (R201) -/

/-- The first failing index of a list of checks in index order, where the indices it leaves out are accepted. -/
theorem find_first {checks : List (Nat × Bool)} {accepted : Nat → Prop} {top : Nat}
    (sorted : checks.Pairwise fun a b => a.1 < b.1) (range : ∀ p ∈ checks, 1 ≤ p.1 ∧ p.1 ≤ top)
    (correct : ∀ p ∈ checks, p.2 = true ↔ accepted p.1)
    (rest : ∀ i, 1 ≤ i → i ≤ top → i ∉ checks.map (·.1) → accepted i) :
    ((checks.find? fun p => !p.2).map (·.1) = none ↔ ∀ i, 1 ≤ i → i ≤ top → accepted i) ∧
    ∀ i, (checks.find? fun p => !p.2).map (·.1) = some i ↔
      1 ≤ i ∧ i ≤ top ∧ ¬ accepted i ∧ ∀ k, 1 ≤ k → k < i → accepted k := by
  have held {k : Nat} (low : 1 ≤ k) (high : k ≤ top) (passes : ∀ p ∈ checks, p.1 = k → p.2 = true) : accepted k := by
    by_cases listed : k ∈ checks.map (·.1)
    · obtain ⟨p, mem, rfl⟩ := List.mem_map.mp listed
      exact (correct p mem).mp (passes p mem rfl)
    · exact rest k low high listed
  have first {i : Nat} (found : (checks.find? fun p => !p.2).map (·.1) = some i) :
      1 ≤ i ∧ i ≤ top ∧ ¬ accepted i ∧ ∀ k, 1 ≤ k → k < i → accepted k := by
    obtain ⟨p, place, rfl⟩ := Option.map_eq_some_iff.mp found
    obtain ⟨fails, before, behind, rfl, passed⟩ := List.find?_eq_some_iff_append.mp place
    have mem : p ∈ before ++ p :: behind := List.mem_append_right _ List.mem_cons_self
    obtain ⟨low, high⟩ := range p mem
    refine ⟨low, high, fun accepts => ?_, fun k positive below => ?_⟩
    · rw [(correct p mem).mpr accepts] at fails
      exact absurd fails (by decide)
    · refine held positive (by omega) fun q listed same => ?_
      rcases List.mem_append.mp listed with earlier | later
      · simpa using passed q earlier
      · have order := (List.pairwise_cons.mp (List.pairwise_append.mp sorted).2.1).1
        rcases List.mem_cons.mp later with rfl | later
        · omega
        · have := order q later
          omega
  have none_iff : (checks.find? fun p => !p.2).map (·.1) = none ↔ ∀ i, 1 ≤ i → i ≤ top → accepted i := by
    rw [Option.map_eq_none_iff, List.find?_eq_none]
    constructor
    · intro passed i low high
      exact held low high fun p mem _ => by simpa using passed p mem
    · intro all p mem
      obtain ⟨low, high⟩ := range p mem
      simp [(correct p mem).mpr (all p.1 low high)]
  refine ⟨none_iff, fun i => ⟨first, ?_⟩⟩
  rintro ⟨low, high, fails, before⟩
  cases found : (checks.find? fun p => !p.2).map (·.1) with
  | none => exact absurd (none_iff.mp found i low high) fails
  | some j =>
    obtain ⟨low', high', fails', before'⟩ := first found
    rcases Nat.lt_trichotomy i j with less | rfl | more
    · exact absurd (before' i low less) fails
    · rfl
    · exact absurd (before j low' more) fails'

section
variable {g : Configuration} {c : Nat} {last : Option Nat}

/-- The indices that are checked. -/
theorem checks_indices (bands : g.bandMap.length = 24) : (g.checks c last).map (·.1) =
    [1, 2, 3, 4, 5, 6, 7, 8, 9, 10, 11, 12] ++ (List.range 24).map (13 + ·) ++ [57, 58, 60, 61, 62] := by
  have band : (g.bandMap.mapIdx fun h b => (13 + h, decide (b ≤ 3))).map (·.1) = (List.range 24).map (13 + ·) := by
    refine List.ext_getElem (by simp [bands]) fun i _ _ => by simp
  rw [Configuration.checks, List.map_append, List.map_append, band]
  rfl

theorem checks_sorted (bands : g.bandMap.length = 24) : (g.checks c last).Pairwise fun a b => a.1 < b.1 := by
  have indices : ((g.checks c last).map (·.1)).Pairwise (· < ·) := by
    rw [checks_indices bands]
    decide
  exact List.pairwise_map.mp indices

theorem checks_range (bands : g.bandMap.length = 24) (p : Nat × Bool) (mem : p ∈ g.checks c last) :
    1 ≤ p.1 ∧ p.1 ≤ 62 := by
  have indices : ∀ i ∈ (g.checks c last).map (·.1), 1 ≤ i ∧ i ≤ 62 := by
    rw [checks_indices bands]
    decide
  exact indices p.1 (List.mem_map_of_mem mem)

/-- The prices and the window's lower end are accepted whatever they are. -/
theorem checks_unlisted (bands : g.bandMap.length = 24) {i : Nat} (low : 1 ≤ i) (high : i ≤ 62)
    (unlisted : i ∉ (g.checks c last).map (·.1)) : 37 ≤ i ∧ i < 57 ∨ i = 59 := by
  rw [checks_indices bands] at unlisted
  revert unlisted
  interval_cases i <;> decide

theorem startAccepted_iff {start : Nat} : startAccepted start c last = true ↔
    c ≤ start ∧ ∀ k, last = some k → k < start := by
  cases last <;> simp [startAccepted]

/-- What accepted means for each field that is checked, by its index, and that the others are accepted (R201). -/
structure AcceptedFields (g : Configuration) (c : Nat) (last : Option Nat) (accepted : Nat → Prop) : Prop where
  cooperative : accepted 1 ↔ 1 ≤ g.cooperative ∧ g.cooperative ≤ 65535
  nodeId : accepted 2 ↔ 1 ≤ g.nodeId ∧ g.nodeId ≤ 250
  lengthCode : accepted 3 ↔ g.lengthCode ≤ 4
  startInterval : accepted 4 ↔ c ≤ g.startInterval ∧ ∀ k, last = some k → k < g.startInterval
  startRemaining : accepted 5 ↔ 1 ≤ g.startRemaining ∧ g.startRemaining ≤ intervalLength g.lengthCode
  importWeight : accepted 6 ↔ 1 ≤ g.importWeight ∧ g.importWeight ≤ 100
  exportWeight : accepted 7 ↔ 1 ≤ g.exportWeight ∧ g.exportWeight ≤ 100
  spacing : accepted 8 ↔ 20 ≤ g.spacing ∧ g.spacing ≤ 2000
  copies : accepted 9 ↔ 2 ≤ g.copies ∧ g.copies ≤ 4
  guardSeconds : accepted 10 ↔ 10 ≤ g.guardSeconds ∧ g.guardSeconds ≤ 120
  quorum : accepted 11 ↔ g.quorum ≤ 100
  levy : accepted 12 ↔ g.levy ≤ 1000
  bands : ∀ h, h < 24 → (accepted (13 + h) ↔ g.bandMap.getD h 0 ≤ 3)
  prices : ∀ p, p < 20 → accepted (37 + p)
  accumulationCode : accepted 57 ↔ g.accumulationCode ≤ 7
  sensePeriod : accepted 58 ↔ 2 ≤ g.sensePeriod ∧ g.sensePeriod ≤ 60
  windowLow : accepted 59
  window : accepted 60 ↔ g.windowLow ≤ g.windowHigh
  strain : accepted 61 ↔ 1 ≤ g.strain ∧ g.strain ≤ 15
  limitFloor : accepted 62 ↔ -140737488355327 ≤ g.limitFloor ∧ g.limitFloor ≤ 0

/-- Each check decides whether its field is accepted. -/
theorem checks_correct {accepted : Nat → Prop} (h : AcceptedFields g c last accepted) (bands : g.bandMap.length = 24)
    (p : Nat × Bool) (mem : p ∈ g.checks c last) : p.2 = true ↔ accepted p.1 := by
  simp only [Configuration.checks, List.mem_append, List.mem_cons, List.not_mem_nil, or_false, List.mem_mapIdx] at mem
  rcases mem with ((rfl | rfl | rfl | rfl | rfl | rfl | rfl | rfl | rfl | rfl | rfl | rfl) | ⟨i, inside, rfl⟩) |
    (rfl | rfl | rfl | rfl | rfl)
  · exact decide_eq_true_iff.trans h.cooperative.symm
  · exact decide_eq_true_iff.trans h.nodeId.symm
  · exact decide_eq_true_iff.trans h.lengthCode.symm
  · exact startAccepted_iff.trans h.startInterval.symm
  · exact decide_eq_true_iff.trans h.startRemaining.symm
  · exact decide_eq_true_iff.trans h.importWeight.symm
  · exact decide_eq_true_iff.trans h.exportWeight.symm
  · exact decide_eq_true_iff.trans h.spacing.symm
  · exact decide_eq_true_iff.trans h.copies.symm
  · exact decide_eq_true_iff.trans h.guardSeconds.symm
  · exact decide_eq_true_iff.trans h.quorum.symm
  · exact decide_eq_true_iff.trans h.levy.symm
  · have band := h.bands i (by omega)
    rw [List.getD_eq_getElem _ _ inside] at band
    exact decide_eq_true_iff.trans band.symm
  · exact decide_eq_true_iff.trans h.accumulationCode.symm
  · exact decide_eq_true_iff.trans h.sensePeriod.symm
  · exact decide_eq_true_iff.trans h.window.symm
  · exact decide_eq_true_iff.trans h.strain.symm
  · exact decide_eq_true_iff.trans h.limitFloor.symm

/-- The index of a refusal is that of the first field outside its accepted range. -/
theorem firstBad_iff {accepted : Nat → Prop} (h : AcceptedFields g c last accepted) (bands : g.bandMap.length = 24) :
    (g.firstBad c last = none ↔ ∀ i, 1 ≤ i → i ≤ 62 → accepted i) ∧
    ∀ i, g.firstBad c last = some i ↔ 1 ≤ i ∧ i ≤ 62 ∧ ¬ accepted i ∧ ∀ k, 1 ≤ k → k < i → accepted k := by
  refine find_first (checks_sorted bands) (checks_range bands) (checks_correct h bands) fun i low high unlisted => ?_
  rcases checks_unlisted bands low high unlisted with ⟨price, last⟩ | rfl
  · have accepts := h.prices (i - 37) (by omega)
    rwa [Nat.add_sub_cancel' price] at accepts
  · exact h.windowLow

end

end Sys2Proof.Machine

/-! SUPPORT. The changing requests of the collector (R163, R186, R191, R197, R201 to R206). -/

namespace Sys2Proof.Machine

open Sys2Proof.Safety

section
variable {s : State}

theorem isIdle_eq_true {t : Store} (idle : t.op = none) (failed : t.failed = false) : t.isIdle = true := by
  simp [Store.isIdle, idle, failed]

theorem isIdle_eq_false {t : Store} (busy : t.op ≠ none ∨ t.failed = true) : t.isIdle = false := by
  rcases busy with op | failed
  · simp [Store.isIdle, op]
  · simp [Store.isIdle, failed]

/-! ### COMMISSION (R201, R202) -/

section
variable {body : List Byte}

theorem runCommission_locked (locked : s.store.commissioning = .locked) :
    s.runCommission body = s.respond 0x06#8 .locked [] := if_pos locked

theorem runCommission_bad {i : Nat} (locked : s.store.commissioning ≠ .locked)
    (bad : (Configuration.ofBytes body).firstBad s.clock.c s.reckoning.last = some i) :
    s.runCommission body = s.respond 0x06#8 .badValue [byteOf i] := by
  rw [State.runCommission, if_neg locked, bad]
  rfl

theorem runCommission_busy (locked : s.store.commissioning ≠ .locked)
    (accepted : (Configuration.ofBytes body).firstBad s.clock.c s.reckoning.last = none)
    (busy : s.store.isIdle = false) : s.runCommission body = s.respond 0x06#8 .busy [] := by
  rw [State.runCommission, if_neg locked, accepted]
  exact if_neg (by simp [busy])

theorem runCommission_begins (locked : s.store.commissioning ≠ .locked)
    (accepted : (Configuration.ofBytes body).firstBad s.clock.c s.reckoning.last = none)
    (idle : s.store.isIdle = true) :
    s.runCommission body = (s.setStore { s.store with op := some (.eraseConfig body 1) }).awaitBlock := by
  rw [State.runCommission, if_neg locked, accepted]
  exact if_pos idle

end

/-! ### LOCK (R163, R203) -/

theorem runLock_fresh (fresh : s.store.commissioning = .fresh) :
    s.runLock = s.respond 0x07#8 .notCommissioned [] := by
  rw [State.runLock, fresh]
  rfl

theorem runLock_locked (locked : s.store.commissioning = .locked) : s.runLock = s.respond 0x07#8 .locked [] := by
  rw [State.runLock, locked]
  rfl

theorem runLock_busy (commissioned : s.store.commissioning = .commissioned) (busy : s.store.isIdle = false) :
    s.runLock = s.respond 0x07#8 .busy [] := by
  rw [State.runLock, commissioned]
  exact if_pos (by simp [busy])

theorem runLock_spoilt (commissioned : s.store.commissioning = .commissioned) (idle : s.store.isIdle = true)
    (spoilt : s.store.lock = .spoilt) : s.runLock = s.respond 0x07#8 .storeFailed [] := by
  rw [State.runLock, commissioned, idle, spoilt]
  rfl

theorem runLock_begins {w : Working} (commissioned : s.store.commissioning = .commissioned)
    (idle : s.store.isIdle = true) (blank : s.store.lock = .blank) (working : s.store.working = some w) :
    s.runLock = (s.setStore { s.store with op := some (.programLock w.check) }).awaitBlock := by
  rw [State.runLock, commissioned, idle, blank, working]
  rfl

/-! ### CLOSE-PERIOD (R139, R204) -/

theorem runClosePeriod_fresh (fresh : s.store.commissioning = .fresh) :
    s.runClosePeriod = s.respond 0x08#8 .notCommissioned [] := if_pos fresh

theorem runClosePeriod_closes (fresh : s.store.commissioning ≠ .fresh) (parity : s.account.parity = true) :
    s.runClosePeriod = (s.closeAccount.respond 0x08#8 .ok (beBytes 4 s.closeAccount.account.ledger.period ++
      beBytes 4 s.closeAccount.account.ledger.opening)).request := by
  rw [State.runClosePeriod, if_neg fresh, if_pos parity]
  rfl

theorem nextOpening_eq {last : Option Nat} {opening : Nat} (none : last = none → opening = 0)
    (some : ∀ k, last = some k → opening = k + 1 ∧ k < 4294967295) :
    nextOpening last = opening ∧ opening ≤ 4294967295 := by
  cases last with
  | none => exact ⟨(none rfl).symm, by simp [none rfl]⟩
  | some k =>
    obtain ⟨rfl, low⟩ := some k rfl
    exact ⟨rfl, low⟩

/-- The close at the account, the queue and LIM, while interval numbers last. -/
theorem closeAccount_eq {lim : Bool} {opening : Nat} (next : nextOpening s.reckoning.last = opening)
    (inRange : opening ≤ 4294967295) (level : LimLevel s 0 lim) : s.closeAccount = { s with
      account := { s.account with ledger := s.account.ledger.closed s.reckoning.last s.queue.lost opening }
      queue := { s.queue with lost := 0 }
      outputs := { s.outputs with lim := lim } } := by
  subst next
  rw [limLevel_unique level, State.closeAccount, storedInterval_of_le inRange, spentInterval_of_le inRange]
  rfl

/-- A request outside FRESH, by the store's state. -/
theorem request_outcome {t : Store} (fresh : s.store.commissioning ≠ .fresh)
    (outcome : (s.store.failed = true ∧ t = { s.store with
          counters := { s.store.counters with refused := min 65535 (s.store.counters.refused + 1) } }) ∨
        (s.store.failed = false ∧ s.store.op ≠ none ∧ s.store.pending = false ∧ t = { s.store with pending := true }) ∨
        (s.store.failed = false ∧ s.store.op ≠ none ∧ s.store.pending = true ∧ t = { s.store with
          counters := { s.store.counters with merged := min 65535 (s.store.counters.merged + 1) } }) ∨
        (s.store.failed = false ∧ s.store.op = none ∧ s.supervisor.resetPending = .none ∧
          s.store.array.eraseNeeded s.store.pointer = true ∧
          t = { s.store with op := some (.eraseSector (s.store.pointer / 16) 1 none) }) ∨
        (s.store.failed = false ∧ s.store.op = none ∧ s.supervisor.resetPending = .none ∧
          s.store.array.eraseNeeded s.store.pointer = false ∧ s.buildOk = true ∧ t = { s.store with
            pending := false
            op := some (.programSlot s.store.pointer (recordNow s s.store.nextSeq s.account.ledger).bytes 1
              s.store.finalOwed) })) : s.request = s.setStore t := by
  rcases outcome with ⟨failed, rfl⟩ | ⟨failed, busy, first, rfl⟩ | ⟨failed, busy, again, rfl⟩ |
    ⟨failed, idle, noReset, needed, rfl⟩ | ⟨failed, idle, noReset, ready, ok, rfl⟩
  · exact request_failed fresh failed
  · rw [request_busy fresh failed busy, pend_first first]
  · rw [request_busy fresh failed busy, pend_again again]
  · rw [request_idle fresh failed idle (mayServe_of_none noReset), beginCheckpoint_erases needed]
  · rw [request_idle fresh failed idle (mayServe_of_none noReset), beginCheckpoint_builds ready,
      buildAndProgram_of_ok ok]

/-! ### RESTART-BLOCK (R57, R123, R191, R205) -/

/-- The link after a LINE restart, in this transmit state and with this many copies counted missed. -/
def Link.restarted (k : Link) (tx : TxState) (missed : Nat) : Link :=
  { k with
    rx := .hunt, assembly := [], stall := none, queue := [], tx := tx, req := false, copy := none
    deferLimit := none, echoWindow := none, echoReference := none
    counters := { LinkCounters.zero with missed := missed } }

theorem lineRestart_of_suspended {k : Link} (state : k.tx = .suspended) : k.lineRestart = k.restarted .suspended 0 := by
  rw [Link.lineRestart, if_pos state, if_neg (by simp [Link.copyBusy, state])]
  rfl

theorem lineRestart_of_idle {k : Link} (state : k.tx = .idle) : k.lineRestart = k.restarted .idle 0 := by
  rw [Link.lineRestart, if_neg (by simp [state]), if_neg (by simp [Link.copyBusy, state])]
  rfl

theorem lineRestart_of_busy {k : Link} (copy : k.copyBusy = true) (active : k.tx ≠ .suspended) :
    k.lineRestart = k.restarted .idle 1 := by
  rw [Link.lineRestart, if_neg active, if_pos copy]
  rfl

/-- A LINE restart, by the transmit state. -/
theorem lineRestart_eq {k : Link} {tx : TxState} {missed : Nat}
    (suspended : k.tx = .suspended → tx = .suspended ∧ missed = 0) (idle : k.tx = .idle → tx = .idle ∧ missed = 0)
    (busy : k.tx = .waiting ∨ k.tx = .sending ∨ k.tx = .echo → tx = .idle ∧ missed = 1) :
    k.lineRestart = k.restarted tx missed := by
  cases state : k.tx with
  | suspended =>
    obtain ⟨rfl, rfl⟩ := suspended state
    exact lineRestart_of_suspended state
  | idle =>
    obtain ⟨rfl, rfl⟩ := idle state
    exact lineRestart_of_idle state
  | waiting =>
    obtain ⟨rfl, rfl⟩ := busy (.inl state)
    exact lineRestart_of_busy (by simp [Link.copyBusy, state]) (by simp [state])
  | sending =>
    obtain ⟨rfl, rfl⟩ := busy (.inr (.inl state))
    exact lineRestart_of_busy (by simp [Link.copyBusy, state]) (by simp [state])
  | echo =>
    obtain ⟨rfl, rfl⟩ := busy (.inr (.inr state))
    exact lineRestart_of_busy (by simp [Link.copyBusy, state]) (by simp [state])

/-- A conversion in flight is counted as discarded. -/
theorem senseRestart_eq {u : Supply} {discarded : Nat} (idle : u.flight = none → discarded = u.discarded)
    (flight : u.flight ≠ none → discarded = min 65535 (u.discarded + 1)) :
    u.senseRestart false = { u with
      flight := none, discarded := discarded, senseFault := false, inBandRun := 0, sequence := 0
      converter := .settling, settling := .running 2000, periodCount := 0, startDue := false } ∧
    u.senseRestart true = { u with
      flight := none, discarded := discarded, senseFault := false, inBandRun := 0, sequence := 0
      converter := .halted, settling := .stopped, periodCount := 0, startDue := false } := by
  have counted : (if u.flight.isSome then count16 u.discarded else u.discarded) = discarded := by
    cases held : u.flight with
    | none => rw [idle held]; rfl
    | some x => rw [flight (by simp [held]), count16_eq_min]; rfl
  simp only [Supply.senseRestart, counted]
  exact ⟨rfl, rfl⟩

theorem runRestartBlock_refuses {b : Byte} (line : b ≠ 1#8) (sense : b ≠ 2#8) :
    s.runRestartBlock b = s.respond 0x09#8 .badValue [1#8] := by
  have unknown : BlockSelector.ofByte b = none := by rw [BlockSelector.ofByte, if_neg line, if_neg sense]
  simp only [State.runRestartBlock, unknown]
  rfl

theorem runRestartBlock_sense (s : State) : s.runRestartBlock 2#8 =
    (s.setSupply (s.supply.senseRestart (s.supervisor.op = .holdUp))).respond 0x09#8 .ok [] := rfl

/-! ### RESTART-NODE (R186, R206) -/

/-- The node once a REQUESTED reset is pending and its final checkpoint awaited. -/
def State.restarting (s : State) : State :=
  s.awaitBlock.setSupervisor { s.supervisor with resetPending := .requested, finalAwaited := true }

theorem runRestartNode_asks (noReset : s.supervisor.resetPending = .none) :
    s.runRestartNode = s.restarting.finalRequest := if_pos noReset

theorem finalRequest_asks (fresh : s.store.commissioning ≠ .fresh) (failed : s.store.failed = false) :
    s.finalRequest = (s.setStore { s.store with finalOwed := true }).request := by
  rw [State.finalRequest, if_neg fresh, if_neg (by simp [failed])]

/-- A final request that cannot be written is reported so at once, the request refused where the store is FAILED. -/
theorem finalRequest_notWritten (unable : s.store.commissioning = .fresh ∨ s.store.failed = true) :
    ∃ t, s.finalRequest = (s.setStore t).finalReport .notWritten := by
  by_cases fresh : s.store.commissioning = .fresh
  · exact ⟨s.store, if_pos fresh⟩
  · have failed := unable.resolve_left fresh
    refine ⟨{ s.store with counters := { s.store.counters with
      refused := min 65535 (s.store.counters.refused + 1) } }, ?_⟩
    rw [State.finalRequest, if_neg fresh, if_pos failed, request_failed fresh failed]

end

end Sys2Proof.Machine

/-! PROOF. The changing requests of the collector (O59). -/

namespace Sys2Proof.Machine

open Sys2Proof.Safety

section
variable {s : State} (powered : s.supervisor.powered = true) (outside : s.supervisor.op ≠ .start)
  (wait : s.port.state = .wait)
include powered outside wait

/-- A request other than COMMISSION that comes in WAIT. -/
theorem exec_other {i : Instr} {x : Request} (request : requestOf i = some x) (other : x.kind ≠ 0x06#8) :
    exec i s = .next (State.execute x (s.holding x)) :=
  exec_whole powered outside wait request fun commission => absurd commission other

/-- CLOSE-PERIOD with its checkpoint request. -/
theorem exec_closePeriod {opening : Nat} {x : Ledger} {lim : Bool} {t : Store}
    (fresh : s.store.commissioning ≠ .fresh) (parity : s.account.parity = true)
    (next : nextOpening s.reckoning.last = opening) (inRange : opening ≤ 4294967295)
    (closed : x = s.account.ledger.closed s.reckoning.last s.queue.lost opening) (level : LimLevel s 0 lim)
    (requested : ((({ s with
        account := { s.account with ledger := x }
        queue := { s.queue with lost := 0 }
        outputs := { s.outputs with lim := lim } } : State).holding ⟨0x08#8, []⟩).respond 0x08#8 .ok
          (beBytes 4 x.period ++ beBytes 4 x.opening)).request =
      State.setStore ((({ s with
        account := { s.account with ledger := x }
        queue := { s.queue with lost := 0 }
        outputs := { s.outputs with lim := lim } } : State).holding ⟨0x08#8, []⟩).respond 0x08#8 .ok
          (beBytes 4 x.period ++ beBytes 4 x.opening)) t) :
    exec .closePeriod s = .next { s with
      account := { s.account with ledger := x }
      queue := { s.queue with lost := 0 }
      outputs := { s.outputs with lim := lim }
      store := t
      port := answered s.port ⟨0x08#8, []⟩ (0#8 :: (beBytes 4 x.period ++ beBytes 4 x.opening)) } := by
  subst closed
  have closing := closeAccount_eq (s := s.holding ⟨0x08#8, []⟩) next inRange
    ⟨level.evaluated, level.inactive⟩
  have runs := runClosePeriod_closes (s := s.holding ⟨0x08#8, []⟩) fresh parity
  rw [closing] at runs
  rw [exec_other powered outside wait (i := .closePeriod) rfl (by decide)]
  exact congrArg Host.Outcome.next (runs.trans requested)

/-- RESTART-NODE on a node that can write: the final checkpoint is asked for. -/
theorem exec_restartNode {t : Store} (noReset : s.supervisor.resetPending = .none)
    (fresh : s.store.commissioning ≠ .fresh) (failed : s.store.failed = false)
    (requested : (((s.holding ⟨0x0A#8, []⟩).restarting).setStore { s.store with finalOwed := true }).request =
      ((s.holding ⟨0x0A#8, []⟩).restarting).setStore t) :
    exec .restartNode s = .next { s with
      port := { s.port with state := .executing, held := some ⟨0x0A#8, []⟩, begun := true }
      supervisor := { s.supervisor with resetPending := .requested, finalAwaited := true }
      store := t } := by
  have asks := runRestartNode_asks (s := s.holding ⟨0x0A#8, []⟩) noReset
  rw [exec_other powered outside wait (i := .restartNode) rfl (by decide)]
  exact congrArg Host.Outcome.next
    (asks.trans ((finalRequest_asks (s := (s.holding ⟨0x0A#8, []⟩).restarting) fresh failed).trans requested))

end

/-- A port that waits for the end of a request of this kind is answered. -/
theorem waitAnswered_awaited {p : Port} {kind : Byte} {body : List Byte} (state : p.state = .executing)
    (begun : p.begun = true) (held : p.held.map (·.kind) = some kind) : waitAnswered p kind body = { p with
      state := .responding, begun := false, assembly := [], gap := none, response := some (envelope kind body) } :=
  if_pos ⟨state, begun, held⟩

/-- The refusals of COMMISSION, LOCK and CLOSE-PERIOD by the commissioning state and the store's. -/
theorem exec_refusals {s : State} (powered : s.supervisor.powered = true) (outside : s.supervisor.op ≠ .start)
    (wait : s.port.state = .wait) :
    (s.store.commissioning = .fresh → exec .lock s = .next { s with port := answered s.port ⟨0x07#8, []⟩ [3#8] } ∧
      exec .closePeriod s = .next { s with port := answered s.port ⟨0x08#8, []⟩ [3#8] }) ∧
    (s.store.commissioning = .locked → exec .lock s = .next { s with port := answered s.port ⟨0x07#8, []⟩ [2#8] }) ∧
    (s.store.commissioning = .commissioned →
      (s.store.op ≠ none ∨ s.store.failed = true →
        exec .lock s = .next { s with port := answered s.port ⟨0x07#8, []⟩ [1#8] }) ∧
      (s.store.op = none → s.store.failed = false → s.store.lock = .spoilt →
        exec .lock s = .next { s with port := answered s.port ⟨0x07#8, []⟩ [6#8] })) := by
  have lock := exec_other powered outside wait (i := .lock) rfl (by decide)
  refine ⟨fun fresh => ⟨?_, ?_⟩, fun locked => ?_, fun commissioned => ⟨fun busy => ?_, fun idle failed spoilt => ?_⟩⟩
  · rw [lock]
    exact congrArg Host.Outcome.next (runLock_fresh fresh)
  · rw [exec_other powered outside wait (i := .closePeriod) rfl (by decide)]
    exact congrArg Host.Outcome.next (runClosePeriod_fresh fresh)
  · rw [lock]
    exact congrArg Host.Outcome.next (runLock_locked locked)
  · rw [lock]
    exact congrArg Host.Outcome.next (runLock_busy commissioned (isIdle_eq_false busy))
  · rw [lock]
    exact congrArg Host.Outcome.next (runLock_spoilt commissioned (isIdle_eq_true idle failed) spoilt)

/-- The fields of a COMMISSION body (R215). -/
theorem ofBytes_fields {body : List Byte} {g : Configuration} {at' : Nat → Nat} {floor : Nat}
    (length : body.length = 96) (config : g = Configuration.ofBytes body)
    (bytes : ∀ i, at' i = (body.getD i 0#8).toNat) (signed : floor =
      ((((at' 90 * 256 + at' 91) * 256 + at' 92) * 256 + at' 93) * 256 + at' 94) * 256 + at' 95) :
    g.cooperative = at' 0 * 256 + at' 1 ∧ g.nodeId = at' 2 ∧ g.lengthCode = at' 3 ∧
      g.startInterval = ((at' 4 * 256 + at' 5) * 256 + at' 6) * 256 + at' 7 ∧
      g.startRemaining = at' 8 * 256 + at' 9 ∧ g.importWeight = at' 10 ∧ g.exportWeight = at' 11 ∧
      g.spacing = at' 12 * 256 + at' 13 ∧ g.copies = at' 14 ∧ g.guardSeconds = at' 15 ∧ g.quorum = at' 16 ∧
      g.levy = at' 17 * 256 + at' 18 ∧
      g.bandMap.length = 24 ∧ (∀ h, h < 24 → g.bandMap.getD h 0 = at' (19 + h)) ∧
      g.prices.length = 20 ∧ (∀ p, p < 20 → g.prices.getD p 0 = at' (43 + 2 * p) * 256 + at' (44 + 2 * p)) ∧
      g.accumulationCode = at' 83 ∧ g.sensePeriod = at' 84 ∧ g.windowLow = at' 85 * 256 + at' 86 ∧
      g.windowHigh = at' 87 * 256 + at' 88 ∧ g.strain = at' 89 ∧
      (floor < 2 ^ 47 → g.limitFloor = floor) ∧ (2 ^ 47 ≤ floor → g.limitFloor = (floor : Int) - 2 ^ 48) := by
  subst config
  obtain ⟨bandCount, bands, priceCount, prices⟩ := ofBytes_lists length
  have limit : floor = fieldNat body 90 6 := by rw [fieldNat_six (by omega), signed]; simp only [bytes]
  obtain ⟨low, high⟩ := beSigned_six (bs := body) (o := 90) (by omega)
  simp only [bytes, limit]
  refine ⟨fieldNat_two (by omega), fieldNat_one (by omega), fieldNat_one (by omega), fieldNat_four (by omega),
    fieldNat_two (by omega), fieldNat_one (by omega), fieldNat_one (by omega), fieldNat_two (by omega),
    fieldNat_one (by omega), fieldNat_one (by omega), fieldNat_one (by omega), fieldNat_two (by omega), bandCount,
    bands, priceCount, prices, fieldNat_one (by omega), fieldNat_one (by omega), fieldNat_two (by omega),
    fieldNat_two (by omega), fieldNat_one (by omega), low, high⟩

/-- Settles O59: each request by its execution, the body by its bytes and its refusal by the first failing check. -/
theorem changingRequestsAreCarriedOut : Obligations.ChangingRequestsAreCarriedOut := by
  intro s powered outside wait
  obtain ⟨freshRefusals, lockedRefusal, lockRefusals⟩ := exec_refusals powered outside wait
  have commission {body : List Byte} (length : body.length = 96) :=
    exec_whole powered outside wait (i := .commission body) rfl fun _ => length
  have restartBlock (b : Byte) := exec_other powered outside wait (i := .restartBlock b) rfl (by simp)
  refine ⟨fun body length locked accepted idle failed => ?_, fun w commissioned blank working idle failed => ?_,
    fun opening x lim t fresh parity none some closed level outcome => ?_, ?_, fun body length locked => ?_,
    fun body i length locked bad => ?_, fun body length locked accepted busy => ?_, freshRefusals, lockedRefusal,
    lockRefusals, fun tx missed suspended idle busy => ?_,
    fun discarded idle flight => ⟨fun run => ?_, fun holdUp => ?_⟩,
    fun b line sense => ?_, fun body g at' floor length config bytes signed =>
      ofBytes_fields length config bytes signed, ?_, fun unable noReset => ?_⟩
  · rw [commission length]
    exact congrArg Host.Outcome.next (runCommission_begins locked accepted (isIdle_eq_true idle failed))
  · rw [exec_other powered outside wait (i := .lock) rfl (by decide)]
    exact congrArg Host.Outcome.next (runLock_begins commissioned (isIdle_eq_true idle failed) blank working)
  · obtain ⟨next, inRange⟩ := nextOpening_eq none some
    subst closed
    exact exec_closePeriod powered outside wait fresh parity next inRange rfl level
      (request_outcome (by exact fresh) (by exact outcome))
  · rintro p v fresh failed noReset rfl rfl
    refine ⟨fun idle ready ok => ?_, fun idle needed => ?_, fun busy first => ?_⟩
    · refine exec_restartNode powered outside wait noReset fresh failed ?_
      rw [request_idle (by exact fresh) (by exact failed) (by exact idle) rfl, beginCheckpoint_builds (by exact ready),
        buildAndProgram_of_ok (by exact ok)]
      rfl
    · refine exec_restartNode powered outside wait noReset fresh failed ?_
      rw [request_idle (by exact fresh) (by exact failed) (by exact idle) rfl, beginCheckpoint_erases (by exact needed)]
      rfl
    · refine exec_restartNode powered outside wait noReset fresh failed ?_
      rw [request_busy (by exact fresh) (by exact failed) (by exact busy), pend_first (by exact first)]
      rfl
  · rw [commission length]
    exact congrArg Host.Outcome.next (runCommission_locked locked)
  · rw [commission length]
    exact congrArg Host.Outcome.next (runCommission_bad locked bad)
  · rw [commission length]
    exact congrArg Host.Outcome.next (runCommission_busy locked accepted (isIdle_eq_false busy))
  · have restarted : s.link.lineRestart = _ := lineRestart_eq suspended idle busy
    rw [restartBlock 1#8]
    exact congrArg (fun k => Host.Outcome.next
      (((s.holding ⟨0x09#8, [1#8]⟩).setLink k).respond 0x09#8 .ok [])) restarted
  · rw [restartBlock 2#8]
    refine congrArg Host.Outcome.next ((runRestartBlock_sense _).trans ?_)
    rw [show decide ((s.holding ⟨0x09#8, [2#8]⟩).supervisor.op = .holdUp) = false by
      simp [State.holding, State.setPort, run], (senseRestart_eq (by exact idle) (by exact flight)).1]
    rfl
  · rw [restartBlock 2#8]
    refine congrArg Host.Outcome.next ((runRestartBlock_sense _).trans ?_)
    rw [show decide ((s.holding ⟨0x09#8, [2#8]⟩).supervisor.op = .holdUp) = true by
      simp [State.holding, State.setPort, holdUp], (senseRestart_eq (by exact idle) (by exact flight)).2]
    rfl
  · rw [restartBlock b]
    exact congrArg Host.Outcome.next (runRestartBlock_refuses line sense)
  · intro g c last accepted bands a1 a2 a3 a4 a5 a6 a7 a8 a9 a10 a11 a12 band price a57 a58 a59 a60 a61 a62
    have fields : AcceptedFields g c last accepted :=
      ⟨a1, a2, a3, a4, a5, a6, a7, a8, a9, a10, a11, a12, band, price, a57, a58, a59, a60, a61, a62⟩
    exact firstBad_iff fields bands
  · obtain ⟨t, request⟩ := finalRequest_notWritten (s := (s.holding ⟨0x0A#8, []⟩).restarting) unable
    have asks := runRestartNode_asks (s := s.holding ⟨0x0A#8, []⟩) noReset
    have report := finalReport_awaited .notWritten
      (s := (s.holding ⟨0x0A#8, []⟩).restarting.setStore t) rfl
    refine ⟨_, (exec_other powered outside wait (i := .restartNode) rfl (by decide)).trans
      (congrArg Host.Outcome.next (asks.trans (request.trans report))), rfl, rfl, rfl, ?_, rfl, rfl⟩
    exact waitAnswered_awaited (p := (s.holding ⟨0x0A#8, []⟩).restarting.port) rfl rfl rfl

end Sys2Proof.Machine

/-! SUPPORT. The start read and the selection event (R157, R159, R160, R174, R175, R180). -/

namespace Sys2Proof.Machine

open Sys2Proof.Safety

/-! ### The slots whose check agrees (R175) -/

section
variable {a : NvArray} {x y : SlotRef} {bs : List Byte}

/-- The slots whose check agrees: their index, their sequence number and their bytes. -/
theorem mem_agreeing : (y, bs) ∈ a.agreeing ↔ a.slots[y.slot]? = some (.written bs) ∧
    (Place.written bs).passing 191 = some bs ∧ y.seq = checkpointSeq bs := by
  simp only [NvArray.agreeing, List.mem_filterMap, List.mem_mapIdx, id_eq, exists_eq_right, Option.map_eq_some_iff,
    Prod.mk.injEq]
  constructor
  · rintro ⟨i, inside, cs, passes, rfl, rfl⟩
    have place := (passing_eq_some.mp passes).1
    exact ⟨(List.getElem?_eq_getElem inside).trans (congrArg some place), place ▸ passes, rfl⟩
  · rintro ⟨place, passes, seq⟩
    obtain ⟨inside, held⟩ := List.getElem?_eq_some_iff.mp place
    exact ⟨y.slot, inside, bs, held ▸ passes, by rw [← seq], rfl⟩

theorem agreeing_sorted (a : NvArray) : a.agreeing.Pairwise fun p q => p.1.slot < q.1.slot := by
  rw [NvArray.agreeing, List.pairwise_filterMap, List.pairwise_iff_getElem]
  intro i j hi hj less p first q second
  simp only [List.getElem_mapIdx, id_eq, Option.map_eq_some_iff] at first second
  obtain ⟨_, _, rfl⟩ := first
  obtain ⟨_, _, rfl⟩ := second
  exact less

/-! ### The slot with the greatest sequence number (R174, R175) -/

theorem greatestSlot_concat (xs : List (SlotRef × List Byte)) (z : SlotRef × List Byte) :
    greatestSlot (xs ++ [z]) = SlotRef.newer (greatestSlot xs) z.1 := by
  rw [greatestSlot, List.foldl_append]
  rfl

theorem newer_ne_none (x : Option SlotRef) (y : SlotRef) : SlotRef.newer x y ≠ none := by
  cases x with
  | none => nofun
  | some x =>
    rw [SlotRef.newer]
    split <;> nofun

/-- The greatest is one of the slots, and of those with its number the first. -/
theorem greatestSlot_spec (xs : List (SlotRef × List Byte)) (sorted : xs.Pairwise fun p q => p.1.slot < q.1.slot) :
    (greatestSlot xs = none → xs = []) ∧ ∀ x, greatestSlot xs = some x → (∃ z ∈ xs, z.1 = x) ∧
      ∀ z ∈ xs, z.1.seq < x.seq ∨ z.1.seq = x.seq ∧ x.slot ≤ z.1.slot := by
  induction xs using List.reverseRecOn with
  | nil => exact ⟨fun _ => rfl, nofun⟩
  | append_singleton xs z ih =>
    obtain ⟨before, -, behind⟩ := List.pairwise_append.mp sorted
    obtain ⟨empty, held⟩ := ih before
    rw [greatestSlot_concat]
    refine ⟨fun none => absurd none (newer_ne_none _ _), fun x greatest => ?_⟩
    have last : z ∈ xs ++ [z] := List.mem_append_right _ List.mem_cons_self
    cases previous : greatestSlot xs with
    | none =>
      rw [previous, SlotRef.newer, Option.some_inj] at greatest
      subst greatest
      rw [empty previous]
      exact ⟨⟨z, List.mem_cons_self, rfl⟩, fun w mem => .inr (by simp_all)⟩
    | some y =>
      obtain ⟨⟨w, mem, rfl⟩, others⟩ := held y previous
      rw [previous, SlotRef.newer] at greatest
      by_cases newer : w.1.seq < z.1.seq
      · rw [if_pos newer, Option.some_inj] at greatest
        subst greatest
        refine ⟨⟨z, last, rfl⟩, fun v listed => ?_⟩
        rcases List.mem_append.mp listed with earlier | same
        · have := others v earlier
          omega
        · rw [List.mem_singleton.mp same]
          exact .inr ⟨rfl, le_rfl⟩
      · rw [if_neg newer, Option.some_inj] at greatest
        subst greatest
        refine ⟨⟨w, List.mem_append_left _ mem, rfl⟩, fun v listed => ?_⟩
        rcases List.mem_append.mp listed with earlier | same
        · exact others v earlier
        · have order := behind w mem z List.mem_cons_self
          rw [List.mem_singleton.mp same]
          omega

/-- The newest valid slot carries the tag and has the greatest number of those that do. -/
theorem newestValid_spec (a : NvArray) (tag : Word16) {valid : SlotRef → Prop}
    (isValid : ∀ y, valid y ↔ ∃ bytes, a.slots[y.slot]? = some (.written bytes) ∧
      (Place.written bytes).passing 191 = some bytes ∧ checkpointTag bytes = tag ∧ y.seq = checkpointSeq bytes) :
    (∀ x, a.newestValid (some tag) = some x → valid x ∧ ∀ y, valid y → y.seq ≤ x.seq) ∧
    (a.newestValid (some tag) = none → ∀ y, ¬ valid y) := by
  have listed (y : SlotRef) : valid y ↔ ∃ z ∈ a.agreeing.filter fun x => checkpointTag x.2 == tag, z.1 = y := by
    rw [isValid]
    constructor
    · rintro ⟨bytes, place, passes, tagged, seq⟩
      exact ⟨(y, bytes), List.mem_filter.mpr ⟨mem_agreeing.mpr ⟨place, passes, seq⟩, beq_iff_eq.mpr tagged⟩, rfl⟩
    · rintro ⟨⟨y, bytes⟩, mem, rfl⟩
      obtain ⟨agrees, tagged⟩ := List.mem_filter.mp mem
      obtain ⟨place, passes, seq⟩ := mem_agreeing.mp agrees
      exact ⟨bytes, place, passes, eq_of_beq tagged, seq⟩
  obtain ⟨empty, held⟩ := greatestSlot_spec _ ((agreeing_sorted a).filter fun x => checkpointTag x.2 == tag)
  refine ⟨fun x newest => ?_, fun none y isIn => ?_⟩
  · obtain ⟨mem, greatest⟩ := held x newest
    refine ⟨(listed x).mpr mem, fun y isIn => ?_⟩
    obtain ⟨z, mem', rfl⟩ := (listed y).mp isIn
    have := greatest z mem'
    omega
  · obtain ⟨z, mem, -⟩ := (listed y).mp isIn
    rw [empty none] at mem
    cases mem

/-! ### The pointer's walk (R175) -/

/-- The walk ends within its sector: at a blank slot or at the first slot of the next, over slots that are neither. -/
theorem walk_spec (a : NvArray) {fuel n : Nat} (ring : n < 32) (enough : (16 - n % 16) % 16 < fuel) :
    ∃ d ≤ (16 - n % 16) % 16, a.walk fuel n = (n + d) % 32 ∧
      (a.walk fuel n % 16 = 0 ∨ (a.slot (a.walk fuel n)).isBlank = true) ∧
      ∀ i < d, (n + i) % 32 % 16 ≠ 0 ∧ (a.slot ((n + i) % 32)).isBlank = false := by
  induction fuel generalizing n with
  | zero => omega
  | succ fuel ih =>
    by_cases ends : (sectorFirst n || (a.slot n).isBlank) = true
    · have stays : a.walk (fuel + 1) n = n := by rw [NvArray.walk, if_pos ends]
      refine ⟨0, Nat.zero_le _, by rw [stays]; omega, ?_, fun i none => absurd none (Nat.not_lt_zero i)⟩
      rw [stays]
      simpa [sectorFirst] using ends
    · have goesOn : a.walk (fuel + 1) n = a.walk fuel ((n + 1) % 32) := by rw [NvArray.walk, if_neg ends]; rfl
      obtain ⟨first, used⟩ := Bool.or_eq_false_iff.mp (Bool.not_eq_true _ ▸ ends)
      have within : n % 16 ≠ 0 := by simpa [sectorFirst] using first
      obtain ⟨d, short, place, stops, passed⟩ := ih (n := (n + 1) % 32) (by omega) (by omega)
      rw [goesOn]
      refine ⟨d + 1, by omega, by rw [place]; omega, stops, fun i below => ?_⟩
      cases i with
      | zero =>
        rw [Nat.add_zero, Nat.mod_eq_of_lt ring]
        exact ⟨within, used⟩
      | succ i =>
        have same : (n + (i + 1)) % 32 = ((n + 1) % 32 + i) % 32 := by omega
        rw [same]
        exact passed i (by omega)

end

/-! ### The start read (R159, R160) -/

theorem tag_of_working {t : Store} {w : Working} (working : t.working = some w) : t.tag = some w.check := by
  rw [Store.tag, working]

theorem tag_of_locked {t : Store} (working : t.working = none) (locked : t.commissioning = .locked) :
    t.tag = t.array.lock.lockCheck := by
  rw [Store.tag, working, locked]

theorem tag_of_unlocked {t : Store} (working : t.working = none) (locked : t.commissioning ≠ .locked) :
    t.tag = none := by
  rw [Store.tag, working]
  cases state : t.commissioning with
  | fresh => rfl
  | commissioned => rfl
  | locked => exact absurd state locked

section
variable (a : NvArray)

theorem restarted_marked (marked : (Store.restarted a).lock = .marked) :
    (Store.restarted a).commissioning = .locked ∧
    ((Store.restarted a).condition = .defective ↔ (Store.restarted a).working = none) := by
  have class_ : a.lockClass = .marked := marked
  refine ⟨if_pos class_, ?_⟩
  have condition : (Store.restarted a).condition = if a.config.working.isNone then .defective else .good := by
    simp [Store.restarted, NvArray.condition, class_]
  have working : (Store.restarted a).working = a.config.working := rfl
  rw [condition, working]
  cases a.config.working <;> simp

theorem restarted_unmarked (unmarked : (Store.restarted a).lock ≠ .marked) :
    (Store.restarted a).condition = .good ∧
    ((Store.restarted a).working = none → (Store.restarted a).commissioning = .fresh) ∧
    ((Store.restarted a).working ≠ none → (Store.restarted a).commissioning = .commissioned) := by
  have class_ : a.lockClass ≠ .marked := unmarked
  have commissioning : (Store.restarted a).commissioning =
      if a.config.working.isSome then .commissioned else .fresh := by
    simp [Store.restarted, NvArray.commissioning, class_]
  have working : (Store.restarted a).working = a.config.working := rfl
  refine ⟨by simp [Store.restarted, NvArray.condition, class_], ?_⟩
  rw [commissioning, working]
  cases a.config.working <;> simp

end

end Sys2Proof.Machine

/-! PROOF. The selection event (O55). -/

namespace Sys2Proof.Machine

open Sys2Proof.Safety

section
variable {s : State}

theorem exec_selectionEvent (powered : s.supervisor.powered = true) (start : s.supervisor.op = .start) :
    exec .selectionEvent s = .next s.startRead.endStart := by
  simp only [exec, execSelectionEvent, whenPowered_on powered]
  rw [if_pos start]

/-- The end of START with the mains present (R180). -/
theorem endStart_run (mains : s.supervisor.mains = .present) : s.endStart = { s with
    supervisor := { s.supervisor with op := .run }
    meter := { s.meter with foldDue := true }
    clock := { s.clock with listenDue := true }
    outputs := { s.outputs with limDue := true }
    port := { s.port with heldDue := true } } := by
  simp only [State.endStart, mains]
  rfl

/-- The end of START with the mains lost is HOLD-UP entry (R180, R182). -/
theorem endStart_holdUp (mains : s.supervisor.mains = .lost) : s.endStart = State.notifyEntry { s with
    supervisor := { s.supervisor with op := .holdUp }
    meter := { s.meter with foldDue := true }
    clock := { s.clock with listenDue := true }
    outputs := { s.outputs with limDue := false }
    port := { s.port with heldDue := true } } := by
  simp only [State.endStart, mains]
  rfl

/-- What the end of START leaves as the start read made it. -/
theorem endStart_frame (s : State) : s.endStart.reckoning = s.reckoning ∧ s.endStart.account = s.account ∧
    s.endStart.peers = s.peers ∧ s.endStart.clock = { s.clock with listenDue := true } ∧
    s.endStart.meter = { s.meter with foldDue := true } ∧ s.endStart.port = { s.port with heldDue := true } ∧
    ∃ inbox, s.endStart.store = { s.store with inbox := inbox } := by
  cases mains : s.supervisor.mains with
  | present =>
    rw [endStart_run mains]
    exact ⟨rfl, rfl, rfl, rfl, rfl, rfl, s.store.inbox, rfl⟩
  | lost =>
    rw [endStart_holdUp mains]
    exact ⟨rfl, rfl, rfl, rfl, rfl, rfl, s.store.inbox ++ [.holdUp], rfl⟩

/-- The slot restored holds the record that its bytes spell. -/
theorem contents_written {a : NvArray} {x : SlotRef} {bytes : List Byte}
    (place : a.slots.getD x.slot .erased = .written bytes) : a.contents x = some (.ofBytes bytes) := by
  have slot : a.slot x.slot = .written bytes := place
  rw [NvArray.contents, slot]

/-- What the owners take from the checkpoint restored, or from none (R175). -/
theorem startRead_values {x : Option Checkpoint}
    (restored : s.startRead.store.newest.bind s.store.array.contents = x) :
    s.startRead.meter.exp.counter = (x.map (·.cumExport)).getD 0 ∧
    s.startRead.meter.imp.counter = (x.map (·.cumImport)).getD 0 ∧ s.startRead.clock.c = (x.map (·.c)).getD 0 ∧
    s.startRead.reckoning.last = x.bind (·.last) ∧
    s.startRead.account.ledger = (x.map (·.ledger)).getD Account.initial.ledger := by
  subst restored
  exact ⟨rfl, rfl, rfl, rfl, rfl⟩

/-- The next sequence number, by the slots whose check agrees (R175). -/
theorem sequence_spec {agrees : Nat → Nat → Prop}
    (isIn : ∀ n q, agrees n q ↔ ∃ z ∈ s.store.array.agreeing, z.1 = ⟨n, q⟩) :
    ((∀ n q, ¬ agrees n q) → s.sequenceAfter (greatestSlot s.store.array.agreeing) = 1) ∧
    ∀ n q, agrees n q → q < 4294967295 → (∀ m p, agrees m p → p ≤ q) →
      s.sequenceAfter (greatestSlot s.store.array.agreeing) = q + 1 := by
  obtain ⟨empty, held⟩ := greatestSlot_spec _ (agreeing_sorted s.store.array)
  cases greatest : greatestSlot s.store.array.agreeing with
  | none =>
    refine ⟨fun _ => rfl, fun n q agreed => ?_⟩
    obtain ⟨z, mem, -⟩ := (isIn n q).mp agreed
    rw [empty greatest] at mem
    cases mem
  | some x =>
    obtain ⟨listed, others⟩ := held x greatest
    have agreed : agrees x.slot x.seq := (isIn _ _).mpr listed
    refine ⟨fun none => absurd agreed (none _ _), fun n q agreed' low top => ?_⟩
    obtain ⟨z, mem, same⟩ := (isIn n q).mp agreed'
    have above := others z mem
    rw [same] at above
    have below := top x.slot x.seq agreed
    have equal : x.seq = q := by
      simp only at above
      omega
    rw [State.sequenceAfter, equal]
    exact if_pos low

/-- Where the walk starts, by the newest valid slot and the slots whose check agrees (R175). -/
theorem walkStart_spec {a : NvArray} {newest : Option SlotRef} {agrees : Nat → Nat → Prop} {start : Nat}
    (isIn : ∀ n q, agrees n q ↔ ∃ z ∈ a.agreeing, z.1 = ⟨n, q⟩)
    (after : ∀ x, newest = some x → start = (x.slot + 1) % 32)
    (first : newest = none → (∀ n q, ¬ agrees n q) → start = 0)
    (afterGreatest : newest = none → ∀ n q, agrees n q → (∀ m p, agrees m p → p < q ∨ (p = q ∧ n ≤ m)) →
      start = (n + 1) % 32) : walkStart newest (greatestSlot a.agreeing) = start := by
  obtain ⟨empty, held⟩ := greatestSlot_spec _ (agreeing_sorted a)
  cases newest with
  | some x => exact (after x rfl).symm
  | none =>
    cases greatest : greatestSlot a.agreeing with
    | none =>
      refine (first rfl fun n q agreed => ?_).symm
      obtain ⟨z, mem, -⟩ := (isIn n q).mp agreed
      rw [empty greatest] at mem
      cases mem
    | some x =>
      obtain ⟨listed, others⟩ := held x greatest
      refine (afterGreatest rfl x.slot x.seq ((isIn _ _).mpr listed) fun m p agreed => ?_).symm
      obtain ⟨z, mem, same⟩ := (isIn m p).mp agreed
      have above := others z mem
      rwa [same] at above

end

/-- Settles O55: the start read by the slots whose check agrees, the end of START by the mains. -/
theorem selectionRestoresTheNewest : Obligations.SelectionRestoresTheNewest := by
  refine ⟨fun s powered start => ?_, fun a tag valid isValid => ?_,
    fun t => ⟨fun w => tag_of_working, tag_of_locked, tag_of_unlocked⟩, ?_,
    fun s t agrees start agreesIff powered inStart command => ?_⟩
  · refine ⟨_, exec_selectionEvent powered start, ?_⟩
    obtain ⟨reckoning, account, peers, clock, meter, port, inbox, store⟩ := endStart_frame s.startRead
    rw [reckoning, account, peers, clock, meter, port]
    refine ⟨?_, fun present => ?_, fun lost => ?_, ⟨rfl, rfl, rfl, rfl, rfl, rfl⟩, fun present => ?_, fun lost => ?_,
      ?_, rfl, rfl, ?_, ?_, rfl, fun none => ?_, fun x bytes newest place => ?_⟩
    · rw [store]
      rfl
    · rw [endStart_run (by exact present)]
    · rw [endStart_holdUp (by exact lost)]
      exact ⟨rfl, rfl⟩
    · rw [endStart_run (by exact present)]
      exact ⟨rfl, rfl, rfl, rfl⟩
    · rw [endStart_holdUp (by exact lost)]
      exact ⟨rfl, rfl, rfl⟩
    · rw [store]
      exact ⟨rfl, rfl, rfl, rfl⟩
    · rw [store]
      rfl
    · rw [store]
      rfl
    · rw [store] at none
      have newest : s.startRead.store.newest = .none := none
      obtain ⟨exp, imp, c, last, ledger⟩ := startRead_values (s := s) (x := .none) (by rw [newest]; rfl)
      rw [ledger]
      exact ⟨exp, imp, c, last, rfl, rfl⟩
    · rw [store] at newest
      have newest : s.startRead.store.newest = some x := newest
      obtain ⟨exp, imp, c, last, ledger⟩ := startRead_values (s := s) (x := some (.ofBytes bytes))
        (by rw [newest]; exact contents_written place)
      exact ⟨exp, imp, c, last, ledger⟩
  · obtain ⟨some, none⟩ := newestValid_spec a tag isValid
    exact ⟨some, none, rfl⟩
  · rintro a t rfl
    refine ⟨rfl, rfl, fun none => ?_, fun bs some => ?_, restarted_marked a, restarted_unmarked a⟩
    · exact congrArg (Option.map _) none
    · exact congrArg (Option.map _) some
  · have isIn (n q : Nat) : agrees n q ↔ ∃ z ∈ s.store.array.agreeing, z.1 = ⟨n, q⟩ := by
      rw [agreesIff]
      constructor
      · rintro ⟨bytes, place, passes, seq⟩
        exact ⟨(⟨n, q⟩, bytes), mem_agreeing.mpr ⟨place, passes, seq⟩, rfl⟩
      · rintro ⟨⟨y, bytes⟩, mem, rfl⟩
        exact ⟨bytes, mem_agreeing.mp mem⟩
    cases (exec_selectionEvent powered inStart).symm.trans command
    obtain ⟨-, -, -, -, -, -, inbox, store⟩ := endStart_frame s.startRead
    rw [store]
    obtain ⟨none, some⟩ := sequence_spec isIn
    refine ⟨none, some, fun after first afterGreatest => ?_⟩
    have begins := walkStart_spec isIn after first afterGreatest
    have ring : start < 32 := begins ▸ walkStart_lt _ _
    obtain ⟨d, short, place, stops, passed⟩ := walk_spec s.store.array (fuel := 32) ring (by omega)
    have pointer : s.startRead.store.pointer = s.store.array.walk 32 start := congrArg (s.store.array.walk 32) begins
    refine ⟨d, by omega, ?_, ?_, passed⟩
    · rw [← place]
      exact pointer
    · exact pointer ▸ stops

end Sys2Proof.Machine
